-- ==== Sys2Proof/Word.lean ====
section
/-! DEFINITION. The widths of the SKH-4100's numbers (Conventions; R200 to R205): bytes, 16-bit stamps and
32-bit words. Positions, distances, counts and times in milliseconds are `Int` or `Nat` wherever the manual
computes them exactly, and a `Word` wherever the manual gives them 32 bits. -/

namespace Sys2Proof

/-- One byte of a structure in shared memory or of a register. -/
abbrev Byte := BitVec 8

/-- A 16-bit stamp; stamps advance modulo 65536 (Conventions, Stamps). -/
abbrev Stamp := BitVec 16

/-- A 32-bit register, address, count or time base reading. -/
abbrev Word := BitVec 32

end Sys2Proof
end

