-- ==== Sys2Proof/Syntax.lean ====
section
/-! DEFINITION. The commands and events the part takes (spec/opcode_table.json): one constructor of `Instr` for
each row, with the operands the row's rules name. The table gives no row any bits. -/

namespace Sys2Proof

/-- The four axes (Conventions, Indices). -/
inductive AxisId where
  | a0 | a1 | a2 | a3
  deriving DecidableEq, Repr

/-- One value for each axis. -/
structure PerAxis (α : Type) where
  a0 : α
  a1 : α
  a2 : α
  a3 : α
  deriving DecidableEq, Repr

/-- The two quadrature channels of an encoder (R102). -/
inductive Channel where
  | a | b
  deriving DecidableEq, Repr

/-- One edge at the receivers' outputs, with the level of the other channel at that edge, or a change of both
channels at once, for which no count is taken (R102). -/
inductive Edge where
  | single (channel : Channel) (rising : Bool) (otherHigh : Bool)
  | both
  deriving DecidableEq, Repr

/-- The three differential pairs that the wire-break monitor watches (R108). -/
inductive Pair where
  | a | b | z
  deriving DecidableEq, Repr

/-- The 20 bytes of an issue region as the five words of one read access, bytes 0–3 first (R1, R140). -/
structure IssueRegion where
  w0 : Word
  w1 : Word
  w2 : Word
  w3 : Word
  w4 : Word
  deriving DecidableEq, Repr

/-- The 32 bytes of one setup chunk as the eight words of its read access (R140, R147). -/
structure SetupChunk where
  w0 : Word
  w1 : Word
  w2 : Word
  w3 : Word
  w4 : Word
  w5 : Word
  w6 : Word
  w7 : Word
  deriving DecidableEq, Repr

/-- How the bus ends a 20-byte read (R143). -/
inductive ReadAnswer where
  | data (region : IssueRegion)
  | busError
  deriving DecidableEq, Repr

/-- How the bus ends a write (R143). -/
inductive WriteAnswer where
  | acknowledged
  | busError
  deriving DecidableEq, Repr

/-- How the bus ends a setup chunk read (R143, R147). -/
inductive ChunkAnswer where
  | data (chunk : SetupChunk)
  | busError
  deriving DecidableEq, Repr

/-- The levels of the two pins of the part that a PIN_RESET leaves: RESET_N still low or released (R188), and the
filtered XSTOP_N level found (R131). -/
structure ResetPins where
  low       : Bool
  xstopHigh : Bool
  deriving DecidableEq, Repr

/-- The commands and events of the SKH-4100, one constructor for each row of the opcode table. A COMMAND write
carries its index (bits 8–15) and its argument (bits 16–31), R205. An event at a block names its axis. -/
inductive Instr where
  /-- LOAD_SETUP, R158: COMMAND write with code 0x01. -/
  | loadSetup (index : Byte) (argument : BitVec 16)
  /-- START, R170: COMMAND write with code 0x02. -/
  | start (index : Byte) (argument : BitVec 16)
  /-- HALT_ALL, R171: COMMAND write with code 0x03. -/
  | haltAll (index : Byte) (argument : BitVec 16)
  /-- ABORT_AXIS, R72, R73: COMMAND write with code 0x10. -/
  | abortAxis (index : Byte) (argument : BitVec 16)
  /-- RELEASE_AXIS, R74: COMMAND write with code 0x11. -/
  | releaseAxis (index : Byte) (argument : BitVec 16)
  /-- CLEAR_REFERENCE, R114: COMMAND write with code 0x12. -/
  | clearReference (index : Byte) (argument : BitVec 16)
  /-- SNAPSHOT, R182: COMMAND write with code 0x13. -/
  | snapshot (index : Byte) (argument : BitVec 16)
  /-- CLOSE_APERTURE, R145: COMMAND write with code 0x20. -/
  | closeAperture (index : Byte) (argument : BitVec 16)
  /-- OPEN_APERTURE, R145: COMMAND write with code 0x21. -/
  | openAperture (index : Byte) (argument : BitVec 16)
  /-- RESET_PART, R196: COMMAND write with code 0x7F. -/
  | resetPart (index : Byte) (argument : BitVec 16)
  /-- UNKNOWN_COMMAND_CODE, R192: COMMAND write with a code that is not in the table of 10.2. -/
  | unknownCommandCode (code : Byte) (index : Byte) (argument : BitVec 16)
  /-- NOTICE, R12: a taken write to NOTICE. -/
  | notice (value : Word)
  /-- ATTN, R185: a taken write to ATTN. -/
  | attn (value : Word)
  /-- ATTN_MASK, R186: a taken write to ATTN_MASK. -/
  | attnMask (value : Word)
  /-- SETUP_ADDR, R190: a taken write to SETUP_ADDR. -/
  | setupAddr (value : Word)
  /-- REGISTER_WRITE_NO_EFFECT, R188: a write at a byte offset of the 64-byte window with the byte lanes it
  writes, which is not a full write of one of the five registers that take writes, or which comes while RESET_N is
  low. -/
  | registerWriteNoEffect (offset : BitVec 6) (lanes : BitVec 4) (value : Word)
  /-- PIN_RESET, R174: RESET_N low, then released, with the filtered XSTOP_N level and the REF levels found (R131,
  R122); with `pins.low` RESET_N stays low, until a PIN_RESET that releases it (R188). -/
  | pinReset (pins : ResetPins) (refLevels : PerAxis Bool)
  /-- XSTOP_ASSERTION, R131, R132: the filtered XSTOP_N level falls. -/
  | xstopAssertion
  /-- XSTOP_RELEASE, R131, R132: the filtered XSTOP_N level rises. -/
  | xstopRelease
  /-- ASSERTION_NOTICE, R133: a sequencer takes the stop-line assertion notice handed to it. -/
  | assertionNotice (axis : AxisId)
  /-- COUNT_CHANGE, R102, R103: the edges of one moment, evaluated in the edge mode in force. -/
  | countChange (axis : AxisId) (edges : List Edge)
  /-- INDEX_PULSE, R111: a rising edge of Z. -/
  | indexPulse (axis : AxisId)
  /-- REF_LEVEL_CHANGE, R105: the filtered REF level becomes the level given. -/
  | refLevelChange (axis : AxisId) (active : Bool)
  /-- PAIR_BROKEN, R108. -/
  | pairBroken (axis : AxisId) (pair : Pair)
  /-- PAIR_INTACT, R108. -/
  | pairIntact (axis : AxisId) (pair : Pair)
  /-- STANDSTILL_REACHED, R106. -/
  | standstillReached (axis : AxisId)
  /-- STALL_TIME_EXPIRY, R107. -/
  | stallTimeExpiry (axis : AxisId)
  /-- MOVE_TIME_LIMIT_EXPIRY, R69. -/
  | moveTimeLimitExpiry (axis : AxisId)
  /-- DWELL_EXPIRY, R47. -/
  | dwellExpiry (axis : AxisId)
  /-- AWAIT_DEADLINE, R49. -/
  | awaitDeadline (axis : AxisId)
  /-- CLOSURE_ANNOUNCEMENT, R48: the waiting axis named takes the oldest announcement handed to it. -/
  | closureAnnouncement (axis : AxisId)
  /-- PATROL_TIMER_EXPIRY, R14. -/
  | patrolTimerExpiry (axis : AxisId)
  /-- REPORT_TIMER_EXPIRY, R181. -/
  | reportTimerExpiry
  /-- PAUSE_ELAPSED, R129, R130. -/
  | pauseElapsed (axis : AxisId)
  /-- DIRECTION_SETUP_ELAPSED, R127. -/
  | directionSetupElapsed (axis : AxisId)
  /-- DIRECTION_HOLD_ELAPSED, R127. -/
  | directionHoldElapsed (axis : AxisId)
  /-- TRANSFER_TIMEOUT, R143: a transfer of the access in progress has had no answer for 40 µs. -/
  | transferTimeout
  /-- ARBITER_GRANT, R141. -/
  | arbiterGrant
  /-- FETCH_END, R9: the bus ends the fetch of an axis's route unit. -/
  | fetchEnd (axis : AxisId) (answer : ReadAnswer)
  /-- VERIFICATION_REREAD_END, R16. -/
  | verificationRereadEnd (axis : AxisId) (answer : ReadAnswer)
  /-- CLOSURE_REREAD_END, R20. -/
  | closureRereadEnd (axis : AxisId) (answer : ReadAnswer)
  /-- OUTCOME_WRITE_END, R20. -/
  | outcomeWriteEnd (axis : AxisId) (answer : WriteAnswer)
  /-- DELIVERY_REREAD_END, R151. -/
  | deliveryRereadEnd (axis : AxisId) (answer : ReadAnswer)
  /-- DELIVERY_WRITE_END, R152. -/
  | deliveryWriteEnd (axis : AxisId) (answer : WriteAnswer)
  /-- PAGE_WRITE_END, R179, R180: the bus ends the page write in progress. -/
  | pageWriteEnd (answer : WriteAnswer)
  /-- SETUP_CHUNK_END, R147: the bus ends the setup chunk read in progress. -/
  | setupChunkEnd (answer : ChunkAnswer)
  /-- SETTLED_REPORT, R172: the command unit takes the oldest settled report of an axis. -/
  | settledReport (axis : AxisId)
  deriving DecidableEq, Repr

end Sys2Proof
end

