-- ==== Sys2Proof/WellFormed.lean ====
section
/-! DEFINITION. Which terms of `Instr` are commands or events of the part. The types carry every range but two:
an UNKNOWN_COMMAND_CODE write has a code outside the table of 10.2, and a REGISTER_WRITE_NO_EFFECT is not a
write that one of the five writable registers takes. -/

namespace Sys2Proof

/-- The command codes of the table of 10.2. -/
def knownCommandCodes : List Byte :=
  [0x01, 0x02, 0x03, 0x10, 0x11, 0x12, 0x13, 0x20, 0x21, 0x7F]

/-- The offsets of the registers that take a full write: SETUP_ADDR, COMMAND, NOTICE, ATTN and ATTN_MASK (table
of 10.1). -/
def writableOffsets : List (BitVec 6) := [0x04, 0x08, 0x0C, 0x10, 0x14]

/-- R188: a write is taken only when it writes all four bytes of one register in one access. -/
def writeIsTaken (offset : BitVec 6) (lanes : BitVec 4) : Bool :=
  lanes == 0xF && writableOffsets.contains offset

/-- The check on a command term. Every constructor is named. -/
def Instr.wellFormed : Instr → Bool
  | .unknownCommandCode code _ _ => !knownCommandCodes.contains code
  | .registerWriteNoEffect offset lanes _ => !writeIsTaken offset lanes
  | .loadSetup _ _ | .start _ _ | .haltAll _ _ | .abortAxis _ _ | .releaseAxis _ _
  | .clearReference _ _ | .snapshot _ _ | .closeAperture _ _ | .openAperture _ _ | .resetPart _ _
  | .notice _ | .attn _ | .attnMask _ | .setupAddr _ | .pinReset _ _
  | .xstopAssertion | .xstopRelease | .assertionNotice _
  | .countChange _ _ | .indexPulse _ | .refLevelChange _ _ | .pairBroken _ _ | .pairIntact _ _
  | .standstillReached _ | .stallTimeExpiry _ | .moveTimeLimitExpiry _ | .dwellExpiry _ | .awaitDeadline _
  | .closureAnnouncement _ | .patrolTimerExpiry _ | .reportTimerExpiry | .pauseElapsed _
  | .directionSetupElapsed _ | .directionHoldElapsed _ | .transferTimeout | .arbiterGrant
  | .fetchEnd _ _ | .verificationRereadEnd _ _ | .closureRereadEnd _ _ | .outcomeWriteEnd _ _
  | .deliveryRereadEnd _ _ | .deliveryWriteEnd _ _ | .pageWriteEnd _ | .setupChunkEnd _
  | .settledReport _ => true

end Sys2Proof
end

