-- ==== Sys2Proof/Decode.lean ====
section
/-! DEFINITION. Which command a word is. The opcode table gives no row any bits (spec/98_reader.md: no row with fixed
bits or fields), so no table word spells a command. A write to the register port is one of the table's rows by its
offset, its byte lanes and its value (R188, R205). -/

namespace Sys2Proof

/-- The command a word spells by the table's bits: none, since no row of the table has bits. -/
def decodeTableWord (_nbits _w : Nat) : Option Instr := none

/-- R205: the command code of a word written to COMMAND, bits 0 to 7. -/
def commandCode (value : Word) : Byte := value.extractLsb' 0 8

/-- R205: the index of a word written to COMMAND, bits 8 to 15. -/
def commandIndex (value : Word) : Byte := value.extractLsb' 8 8

/-- R205: the argument of a word written to COMMAND, bits 16 to 31. -/
def commandArgument (value : Word) : BitVec 16 := value.extractLsb' 16 16

/-- R205, table of 10.2: the command that a word written to COMMAND is. -/
def Instr.ofCommand (value : Word) : Instr :=
  let code := commandCode value
  let index := commandIndex value
  let argument := commandArgument value
  if code = 0x01 then .loadSetup index argument
  else if code = 0x02 then .start index argument
  else if code = 0x03 then .haltAll index argument
  else if code = 0x10 then .abortAxis index argument
  else if code = 0x11 then .releaseAxis index argument
  else if code = 0x12 then .clearReference index argument
  else if code = 0x13 then .snapshot index argument
  else if code = 0x20 then .closeAperture index argument
  else if code = 0x21 then .openAperture index argument
  else if code = 0x7F then .resetPart index argument
  else .unknownCommandCode code index argument

/-- R188: the command that a write to the register port is, with RESET_N high: a full write of a writable register is
handed to its owner, every other write has no effect. -/
def Instr.ofWrite (offset : BitVec 6) (lanes : BitVec 4) (value : Word) : Instr :=
  if !writeIsTaken offset lanes then .registerWriteNoEffect offset lanes value
  else if offset = 0x04 then .setupAddr value
  else if offset = 0x08 then .ofCommand value
  else if offset = 0x0C then .notice value
  else if offset = 0x10 then .attn value
  else .attnMask value

end Sys2Proof
end

