-- ==== Sys2Proof/Machine/State.lean ====
section
/-! DEFINITION. The state of the SKH-4100 as plain data: every register, queue, timer, flag and line the manual
names, the queue of commands and events not yet taken, and the state after pin reset. -/

namespace Sys2Proof

/-- FORWARD or REVERSE (Conventions, Positions). -/
inductive Direction where
  | forward | reverse
  deriving DecidableEq, Repr

/-- The six aperture entries, by number (R138). -/
inductive EntryId where
  | e0 | e1 | e2 | e3 | e4 | e5
  deriving DecidableEq, Repr

/-- One value for each aperture entry. -/
structure PerEntry (α : Type) where
  e0 : α
  e1 : α
  e2 : α
  e3 : α
  e4 : α
  e5 : α
  deriving DecidableEq, Repr

/-- The eight approach profiles, by number (R80). -/
inductive ProfileId where
  | p0 | p1 | p2 | p3 | p4 | p5 | p6 | p7
  deriving DecidableEq, Repr

/-- One value for each approach profile. -/
structure PerProfile (α : Type) where
  p0 : α
  p1 : α
  p2 : α
  p3 : α
  p4 : α
  p5 : α
  p6 : α
  p7 : α
  deriving DecidableEq, Repr

/-- The value of one axis. -/
def PerAxis.get {α : Type} (v : PerAxis α) : AxisId → α
  | .a0 => v.a0
  | .a1 => v.a1
  | .a2 => v.a2
  | .a3 => v.a3

/-- The values with that of one axis replaced. -/
def PerAxis.set {α : Type} (v : PerAxis α) (n : AxisId) (x : α) : PerAxis α :=
  match n with
  | .a0 => { v with a0 := x }
  | .a1 => { v with a1 := x }
  | .a2 => { v with a2 := x }
  | .a3 => { v with a3 := x }

/-- The same value for each axis. -/
def PerAxis.all {α : Type} (x : α) : PerAxis α := ⟨x, x, x, x⟩

/-- The value of one aperture entry. -/
def PerEntry.get {α : Type} (v : PerEntry α) : EntryId → α
  | .e0 => v.e0
  | .e1 => v.e1
  | .e2 => v.e2
  | .e3 => v.e3
  | .e4 => v.e4
  | .e5 => v.e5

/-- The values with that of one aperture entry replaced. -/
def PerEntry.set {α : Type} (v : PerEntry α) (i : EntryId) (x : α) : PerEntry α :=
  match i with
  | .e0 => { v with e0 := x }
  | .e1 => { v with e1 := x }
  | .e2 => { v with e2 := x }
  | .e3 => { v with e3 := x }
  | .e4 => { v with e4 := x }
  | .e5 => { v with e5 := x }

/-- The value of one profile. -/
def PerProfile.get {α : Type} (v : PerProfile α) : ProfileId → α
  | .p0 => v.p0
  | .p1 => v.p1
  | .p2 => v.p2
  | .p3 => v.p3
  | .p4 => v.p4
  | .p5 => v.p5
  | .p6 => v.p6
  | .p7 => v.p7

/-- The values with that of one profile replaced. -/
def PerProfile.set {α : Type} (v : PerProfile α) (i : ProfileId) (x : α) : PerProfile α :=
  match i with
  | .p0 => { v with p0 := x }
  | .p1 => { v with p1 := x }
  | .p2 => { v with p2 := x }
  | .p3 => { v with p3 := x }
  | .p4 => { v with p4 := x }
  | .p5 => { v with p5 := x }
  | .p6 => { v with p6 := x }
  | .p7 => { v with p7 := x }

namespace Machine

/-- R156: the five controller states. -/
inductive ControllerState where
  | blank | loading | loaded | running | halting
  deriving DecidableEq, Repr

/-- R156: the state from which a load was taken. -/
inductive Origin where
  | blank | loaded
  deriving DecidableEq, Repr

/-- The results of table 10.3. -/
inductive Result where
  | none | pending | done | refusedState | refusedArgument | refusedLatched | refusedAccess | failedSetup
  deriving DecidableEq, Repr

/-- R55: the eleven axis states. -/
inductive AxisState where
  | dormant | idle | rapid | creep | coasting | pausing | seeking | dwelling | awaiting | stopping | held
  deriving DecidableEq, Repr

/-- R36, R201: the outcome codes. -/
inductive Outcome where
  | reached | done | missed | searchExhausted | waitExpired | abandoned | lineStopped
  | rejectedKind | rejectedProfile | rejectedRange | rejectedUnreferenced | rejectedArgument
  | stalled | timedOut | slipped | encoderLost | accessFailed
  deriving DecidableEq, Repr

/-- R59: the fault kinds, which are held causes and members of the later-fault set. -/
inductive FaultKind where
  | missed | searchExhausted | waitExpired | rejected | aborted | lineStop | stalled | timedOut | slipped
  | encoderLost | accessFetch | accessStatus | accessClose | tornSlot
  deriving DecidableEq, Repr

/-- R142, R143: why an access failed. -/
inductive Reason where
  | outside | closed | readOnly | busError
  deriving DecidableEq, Repr

/-- R144: a failed access's reason and the entry concerned, or none. -/
structure Failure where
  reason : Reason
  entry  : Option EntryId
  deriving DecidableEq, Repr

/-- R138: access rights of an aperture entry. -/
inductive Rights where
  | none | readOnly | readWrite
  deriving DecidableEq, Repr

/-- R138: one aperture entry. -/
structure Aperture where
  base       : Word
  limit      : Word
  offset     : Word
  rights     : Rights
  openAtLoad : Bool
  deriving DecidableEq, Repr

/-- R80: one approach profile; the values captured by a leg have the same form (R82). -/
structure Profile where
  slow    : Nat
  cut     : Nat
  window  : Nat
  retries : Nat
  deriving DecidableEq, Repr

/-- R102: the edge mode. -/
inductive EdgeMode where
  | x1 | x2 | x4
  deriving DecidableEq, Repr

/-- R81, R103: a linear axis, or a rotary axis with its modulus. -/
inductive AxisKind where
  | linear
  | rotary (modulus : Nat)
  deriving DecidableEq, Repr

/-- R124: the output mode of a drive stage. -/
inductive OutputMode where
  | none | split | steer
  deriving DecidableEq, Repr

/-- R203: the axis section of an enabled axis, its route descriptor and its status page address included. -/
structure Section where
  kind       : AxisKind
  edge       : EdgeMode
  output     : OutputMode
  side       : Option Direction
  indexCheck : Bool
  settle     : Nat
  tolerance  : Nat
  stall      : Nat
  pause      : Nat
  slack      : Nat
  timeLimit  : Nat
  lower      : Int
  upper      : Int
  indexSpan  : Nat
  routeBase  : Word
  length     : Nat
  s0         : Stamp
  pageAddr   : Word
  deriving DecidableEq, Repr

/-- R157: the working copy of the committed setup. A disabled axis has no section. -/
structure Setup where
  enableMask : Byte
  dryNotify  : Byte
  patrol     : Nat
  report     : Nat
  apertures  : PerEntry Aperture
  profiles   : PerProfile Profile
  sections   : PerAxis (Option Section)
  deriving DecidableEq, Repr

/-- R156, R171, R172: what a pending HALT_ALL holds: the settled set, what each sequencer last told, and the
reports under way from each sequencer, oldest first. -/
structure HaltState where
  settled : PerAxis Bool
  told    : PerAxis Bool
  reports : PerAxis (List Bool)
  deriving DecidableEq, Repr

/-- R156, R190, R191: the command unit. -/
structure CommandUnit where
  controller   : ControllerState
  origin       : Option Origin
  loadAddress  : Option Word
  setupAddr    : Word
  lastCode     : Byte
  result       : Result
  detail       : Byte
  detailIndex  : Byte
  pendingIndex : Option Byte
  overrun      : Bool
  halt         : Option HaltState
  deriving DecidableEq, Repr

/-- R7: the slot and stamp a fetch was started for. -/
structure FetchTarget where
  slot  : Nat
  stamp : Stamp
  deriving DecidableEq, Repr

/-- R6: a staged record, the whole issue region with the slot it was read from. -/
structure Staged where
  slot   : Nat
  record : IssueRegion
  deriving DecidableEq, Repr

/-- R19, R150: a closure entry. -/
structure ClosureEntry where
  slot     : Nat
  record   : IssueRegion
  outcome  : Outcome
  legByte  : Byte
  finalPos : Word
  elapsed  : Word
  deriving DecidableEq, Repr

/-- R20, R151: closure work and a delivery are a re-read, then an outcome write. -/
inductive ClosurePhase where
  | reread | write
  deriving DecidableEq, Repr

/-- R19, R20: the closure entry of a route unit and how far its work has come. -/
structure ClosureWork where
  entry : ClosureEntry
  phase : ClosurePhase
  deriving DecidableEq, Repr

/-- The route unit of one axis (R3, R6, R7, R11, R13, R14, R19). -/
structure RouteUnit where
  cursor      : Nat
  expected    : Stamp
  staging     : List Staged
  target      : Option FetchTarget
  closure     : Option ClosureWork
  dry         : Bool
  noticeLatch : Bool
  patrolStart : Option Word
  deriving DecidableEq, Repr

/-- R82: the role of a leg. -/
inductive LegRole where
  | takeUp | final
  deriving DecidableEq, Repr

/-- R82: the class of a leg. -/
inductive LegClass where
  | first | correction
  deriving DecidableEq, Repr

/-- R84: a leg of the leg plan, not yet started. -/
structure PlannedLeg where
  role      : LegRole
  cls       : LegClass
  direction : Direction
  aim       : Int
  deriving DecidableEq, Repr

/-- R82: a leg in existence. The cut point is none until the leg's drive decision (R90). -/
structure Leg where
  role      : LegRole
  cls       : LegClass
  direction : Direction
  aim       : Int
  togo      : Int
  captured  : Profile
  cutPoint  : Option Nat
  deriving DecidableEq, Repr

/-- R54: the state of a move. -/
structure MoveState where
  target : Int
  leg    : Option Leg
  plan   : List PlannedLeg
  deriving DecidableEq, Repr

/-- R116: the two motions of a search. -/
inductive SearchMotion where
  | backOff | search
  deriving DecidableEq, Repr

/-- R54, R116, R118: the state of a search; qualified from its qualifying pulse on. -/
structure SearchState where
  direction : Direction
  motion    : SearchMotion
  travel    : Int
  qualified : Bool
  deriving DecidableEq, Repr

/-- R48: the state of a wait, with the announcements handed to it and not yet taken, oldest first. -/
structure AwaitState where
  axis      : AxisId
  stamp     : Stamp
  deadline  : Option Word
  announced : List Stamp
  deriving DecidableEq, Repr

/-- R54: the state of the executing record's kind. A record under verification has not started (R15); begun is
a record that has started and holds no state of a kind, as one that closes at once. -/
inductive KindState where
  | verifying
  | begun
  | move (m : MoveState)
  | search (c : SearchState)
  | dwell (expiry : Word)
  | await (a : AwaitState)
  deriving DecidableEq, Repr

/-- R54: the executing record. For a search `legs` counts the motions driven (R34). -/
structure Executing where
  record      : IssueRegion
  slot        : Nat
  startTime   : Word
  legs        : Nat
  corrections : Nat
  work        : KindState
  deriving DecidableEq, Repr

/-- A notice that a position unit hands its sequencer (R105): the cause, and the outcome of a record that it overtakes. -/
structure UnitNotice where
  kind    : FaultKind
  outcome : Outcome
  deriving DecidableEq, Repr

/-- The axis sequencer of one axis (R54, R55, R69, R105, R133, R150). `stopNotices` counts the assertion notices (R133) handed
to it and not yet taken. `handed` holds, in the order handed, the notices of its position unit that it has not yet taken: a
repeated ENCODER_LOST notice (R110), and what the position unit has handed after it. -/
structure Sequencer where
  state           : AxisState
  executing       : Option Executing
  stoppingOutcome : Option Outcome
  heldCause       : Option FaultKind
  later           : BitVec 16
  moveExpiry      : Option Word
  latch           : Option ClosureEntry
  delivery        : Option ClosurePhase
  refHanded       : Bool
  stopNotices     : Nat
  handed          : List UnitNotice
  deriving DecidableEq, Repr

/-- R102, R103: what a counting position unit holds. -/
structure Counting where
  edge : EdgeMode
  kind : AxisKind
  deriving DecidableEq, Repr

/-- R123: the fields of the axis section that a position unit takes at a commit. -/
structure PositionParams where
  settle     : Nat
  stall      : Nat
  indexCheck : Bool
  indexSpan  : Nat
  tolerance  : Nat
  deriving DecidableEq, Repr

/-- R108: the pair states; true is BROKEN. -/
structure PairStates where
  a : Bool
  b : Bool
  z : Bool
  deriving DecidableEq, Repr

/-- R111: a span measurement in progress. -/
structure SpanMeasurement where
  direction : Direction
  count     : Nat
  deriving DecidableEq, Repr

/-- The position unit of one axis (table of 5.1). Counting is OFF where `counting` is none. `standstill` is the
condition as reported; the condition itself is `State.standsStill` (R106). -/
structure PositionUnit where
  counting   : Option Counting
  raw        : Word
  shift      : Word
  lastChange : Word
  standstill : Bool
  params     : Option PositionParams
  stallStart : Option Word
  pairs      : PairStates
  lossMark   : Bool
  span       : Option SpanMeasurement
  lastSpan   : Word
  referenced : Bool
  refLevel   : Bool
  lastCount  : Option Direction
  deriving DecidableEq, Repr

/-- The drive stage of one axis (table of 6.1). In STEER mode `runFwd` is the run line and `runRev` the direction
line. `dirSetup` and `dirHold` say that the setup or hold time of the direction line is running, and `dirDrop` that
the direction line goes inactive when its hold time ends (R127). -/
structure DriveStage where
  mode     : OutputMode
  pause    : Nat
  runFwd   : Bool
  runRev   : Bool
  rapid    : Bool
  lastDir  : Option Direction
  restStart : Option Word
  revClear : Bool
  lockout  : Bool
  dirSetup : Bool
  dirHold  : Bool
  dirDrop  : Bool
  deriving DecidableEq, Repr

/-- What the status reporter holds for one axis (R176, R177, R178, R180). -/
structure PageUnit where
  serial    : Word
  due       : Bool
  stale     : Bool
  lastTag   : Word
  tornStamp : Stamp
  tornCode  : Byte
  tornSeen  : Bool
  deriving DecidableEq, Repr

/-- The blocks that are present once per axis, and the reporter's part for the axis. -/
structure AxisUnit where
  route : RouteUnit
  seq   : Sequencer
  pos   : PositionUnit
  drive : DriveStage
  page  : PageUnit
  deriving DecidableEq, Repr

/-- R141: the requesters of the memory port. -/
inductive Requester where
  | loader
  | route (n : AxisId)
  | reporter
  deriving DecidableEq, Repr

/-- R140: the accesses of a route unit. -/
inductive RouteAccess where
  | fetch | verification | closureReread | outcomeWrite | deliveryReread | deliveryWrite
  deriving DecidableEq, Repr

/-- R140: a route unit's request: its kind, its first part-side byte, and for a write the words with their byte
offsets from there, in transfer order. -/
structure RouteRequest where
  kind : RouteAccess
  addr : Word
  data : List (Nat × Word)
  deriving DecidableEq, Repr

/-- R140: the access in progress by what asked for it. -/
inductive AccessKind where
  | chunk (j : Nat)
  | route (n : AxisId) (k : RouteAccess)
  | page (n : AxisId)
  deriving DecidableEq, Repr

/-- R143: one word transfer on the bus, a write where it has data. -/
structure Transfer where
  busAddr : Word
  data    : Option Word
  deriving DecidableEq, Repr

/-- R141 to R143: the access in progress. `dropped` marks one whose answer no requester takes (R148). -/
structure Access where
  kind      : AccessKind
  entry     : Option EntryId
  transfers : List Transfer
  dropped   : Bool
  deriving DecidableEq, Repr

/-- The memory port and its arbiter (R140, R141). The reporter's request is computed (R178). -/
structure MemoryPort where
  pointer : Requester
  access  : Option Access
  waiting : PerAxis (Option RouteRequest)
  chunk   : Option Nat
  deriving DecidableEq, Repr

/-- R178, R182: a page write outstanding, and whether its page was composed after a pending SNAPSHOT of that axis
was taken. -/
structure PageWriting where
  axis            : AxisId
  answersSnapshot : Bool
  deriving DecidableEq, Repr

/-- The status reporter's shared part (R178, R181). -/
structure Reporter where
  timerStart  : Option Word
  lastWritten : AxisId
  writing     : Option PageWriting
  deriving DecidableEq, Repr

/-- The state of the part, with the queue of commands and events not yet taken. `resetLow` says that RESET_N is low
(R174, R188). -/
structure State where
  timeBase  : Word
  cmd       : CommandUnit
  setup     : Option Setup
  shadow    : Option (List SetupChunk)
  apertureOpen : PerEntry Bool
  port      : MemoryPort
  axes      : PerAxis AxisUnit
  xstopHigh : Bool
  reporter  : Reporter
  attn      : BitVec 6
  attnMask  : BitVec 6
  resetLow  : Bool
  freeCount : Nat
  pending   : List Instr
  deriving DecidableEq, Repr

/-- What stops the part with a fault: nothing does. Every failure the manual describes is an effect on State. -/
inductive Fault where
  deriving DecidableEq, Repr

/-- Why a step has no meaning. -/
inductive Refusal where
  /-- Raised by `exec` for a command that has no meaning yet; safe. No arm raises it now. -/
  | notModelled (mnemonic : String)
  /-- Raised by UNKNOWN_COMMAND_CODE with a code of the command table and by REGISTER_WRITE_NO_EFFECT with a write
  that a register takes: such a term is no command of the part (WellFormed); safe. Assumption 13. -/
  | notACommand
  deriving DecidableEq, Repr

/-- R25: a route unit after pin reset, after RESET_PART, or of a disabled axis. -/
def RouteUnit.reset : RouteUnit :=
  { cursor := 0, expected := 0, staging := [], target := none, closure := none, dry := false,
    noticeLatch := false, patrolStart := none }

/-- R79: an axis sequencer after pin reset, after RESET_PART and of a disabled axis. The REF level last handed is one
given at a commit (R105); before that commit the manual gives none, and the model holds inactive. DESIGN CHOICE,
assumption 30. -/
def Sequencer.reset : Sequencer :=
  { state := .dormant, executing := none, stoppingOutcome := none, heldCause := none, later := 0,
    moveExpiry := none, latch := none, delivery := none, refHanded := false, stopNotices := 0,
    handed := [] }

/-- R122: a position unit after pin reset. REF level: DESIGN CHOICE, assumption 3; last change time: DESIGN
CHOICE, assumption 16. -/
def PositionUnit.reset : PositionUnit :=
  { counting := none, raw := 0, shift := 0, lastChange := 0, standstill := false, params := none,
    stallStart := none, pairs := ⟨false, false, false⟩, lossMark := false, span := none, lastSpan := 0,
    referenced := false, refLevel := false, lastCount := none }

/-- R136: a drive stage after pin reset. -/
def DriveStage.reset : DriveStage :=
  { mode := .none, pause := 0, runFwd := false, runRev := false, rapid := false, lastDir := none,
    restStart := none, revClear := false, lockout := false, dirSetup := false, dirHold := false, dirDrop := false }

/-- R183: the reporter's part for an axis after pin reset. -/
def PageUnit.reset : PageUnit :=
  { serial := 0, due := false, stale := false, lastTag := 0, tornStamp := 0, tornCode := 0, tornSeen := false }

/-- The blocks of one axis after pin reset. -/
def AxisUnit.reset : AxisUnit :=
  { route := .reset, seq := .reset, pos := .reset, drive := .reset, page := .reset }

/-- R174, R199: the command unit after pin reset. -/
def CommandUnit.reset : CommandUnit :=
  { controller := .blank, origin := none, loadAddress := none, setupAddr := 0, lastCode := 0, result := .none,
    detail := 0, detailIndex := 0, pendingIndex := none, overrun := false, halt := none }

/-- R148, R155: the memory port after pin reset. -/
def MemoryPort.reset : MemoryPort :=
  { pointer := .reporter, access := none, waiting := .all none, chunk := none }

/-- R183: the reporter's shared part after pin reset. -/
def Reporter.reset : Reporter :=
  { timerStart := none, lastWritten := .a3, writing := none }

/-- The part right after the release of RESET_N (R174, R199). XSTOP_N found high: DESIGN CHOICE, assumption 3.
The counter of the free values: DESIGN CHOICE, no statement rests on it. -/
def State.reset : State :=
  { timeBase := 0, cmd := .reset, setup := none, shadow := none,
    apertureOpen := ⟨false, false, false, false, false, false⟩, port := .reset, axes := .all .reset,
    xstopHigh := true, reporter := .reset, attn := 0, attnMask := 0, resetLow := false, freeCount := 0, pending := [] }

/-! ### Access by axis -/

/-- The blocks of axis n. -/
def State.axis (s : State) (n : AxisId) : AxisUnit := s.axes.get n

/-- The state with the blocks of axis n replaced. -/
def State.setAxis (s : State) (n : AxisId) (u : AxisUnit) : State := { s with axes := s.axes.set n u }

/-- A change of the route unit of axis n. -/
def State.modRoute (s : State) (n : AxisId) (f : RouteUnit → RouteUnit) : State :=
  s.setAxis n { s.axis n with route := f (s.axis n).route }

/-- A change of the sequencer of axis n. -/
def State.modSeq (s : State) (n : AxisId) (f : Sequencer → Sequencer) : State :=
  s.setAxis n { s.axis n with seq := f (s.axis n).seq }

/-- A change of the position unit of axis n. -/
def State.modPos (s : State) (n : AxisId) (f : PositionUnit → PositionUnit) : State :=
  s.setAxis n { s.axis n with pos := f (s.axis n).pos }

/-- A change of the drive stage of axis n. -/
def State.modDrive (s : State) (n : AxisId) (f : DriveStage → DriveStage) : State :=
  s.setAxis n { s.axis n with drive := f (s.axis n).drive }

/-- A change of the reporter's part for axis n. -/
def State.modPage (s : State) (n : AxisId) (f : PageUnit → PageUnit) : State :=
  s.setAxis n { s.axis n with page := f (s.axis n).page }

/-- The axis section of axis n of the setup in force; none while no setup is loaded or the axis is disabled. -/
def State.sectionOf (s : State) (n : AxisId) : Option Section := s.setup.bind fun c => c.sections.get n

end Machine

end Sys2Proof
end

