-- ==== Sys2Proof/Machine/Operands.lean ====
section
/-! DEFINITION. The byte layouts and codes of chapter 11, and how the part reads its operands through them: the
index of a command, the fields of a waypoint record, the fields of the setup block in the shadow, the words of an
outcome write, and every code table. -/

namespace Sys2Proof

/-- Bytes `b0` (lowest address) to `b3` as one little-endian word (R140, R200). -/
def wordOfBytes (b0 b1 b2 b3 : Byte) : Word := b3 ++ b2 ++ b1 ++ b0

/-- Two halves as one little-endian word. -/
def wordOfHalves (lo hi : BitVec 16) : Word := hi ++ lo

/-- Byte `k`, 0 … 3, of a word. -/
def byteOfWord (w : Word) (k : Nat) : Byte := w.extractLsb' (8 * k) 8

/-- Half `k`, 0 or 1, of a word. -/
def halfOfWord (w : Word) (k : Nat) : BitVec 16 := w.extractLsb' (16 * k) 16

/-- "a is at or after b" for stamps (Conventions, Stamps). -/
def stampAtOrAfter (a b : Stamp) : Bool := decide ((a - b).toNat < 32768)

/-- The number of an axis. -/
def AxisId.toNat : AxisId → Nat
  | .a0 => 0
  | .a1 => 1
  | .a2 => 2
  | .a3 => 3

/-- The four axes in ascending order. -/
def AxisId.list : List AxisId := [.a0, .a1, .a2, .a3]

/-- The axis after `n` in the ring 0, 1, 2, 3, 0 (R178). -/
def AxisId.next : AxisId → AxisId
  | .a0 => .a1
  | .a1 => .a2
  | .a2 => .a3
  | .a3 => .a0

/-- R205: the axis that an index names; a value above 3 names none. -/
def AxisId.ofIndex (b : Byte) : Option AxisId :=
  if b = 0 then some .a0 else if b = 1 then some .a1 else if b = 2 then some .a2
  else if b = 3 then some .a3 else none

/-- The index that names an axis. -/
def AxisId.toIndex : AxisId → Byte
  | .a0 => 0
  | .a1 => 1
  | .a2 => 2
  | .a3 => 3

/-- The number of an aperture entry. -/
def EntryId.toNat : EntryId → Nat
  | .e0 => 0
  | .e1 => 1
  | .e2 => 2
  | .e3 => 3
  | .e4 => 4
  | .e5 => 5

/-- The six entries in ascending order. -/
def EntryId.list : List EntryId := [.e0, .e1, .e2, .e3, .e4, .e5]

/-- R205: the aperture entry that an index names; a value above 5 names none. -/
def EntryId.ofIndex (b : Byte) : Option EntryId :=
  if b = 0 then some .e0 else if b = 1 then some .e1 else if b = 2 then some .e2
  else if b = 3 then some .e3 else if b = 4 then some .e4 else if b = 5 then some .e5 else none

/-- The profile that a selector names; a value above 7 names none (R29 step 2). -/
def ProfileId.ofSelector (b : Byte) : Option ProfileId :=
  if b = 0 then some .p0 else if b = 1 then some .p1 else if b = 2 then some .p2 else if b = 3 then some .p3
  else if b = 4 then some .p4 else if b = 5 then some .p5 else if b = 6 then some .p6
  else if b = 7 then some .p7 else none

/-- The number of a profile. -/
def ProfileId.toNat : ProfileId → Nat
  | .p0 => 0
  | .p1 => 1
  | .p2 => 2
  | .p3 => 3
  | .p4 => 4
  | .p5 => 5
  | .p6 => 6
  | .p7 => 7

/-- The eight profiles in ascending order. -/
def ProfileId.list : List ProfileId := [.p0, .p1, .p2, .p3, .p4, .p5, .p6, .p7]

/-- A direction as a sign, +1 or −1 (Conventions, Positions). -/
def Direction.sign : Direction → Int
  | .forward => 1
  | .reverse => -1

/-- The other direction. -/
def Direction.opposite : Direction → Direction
  | .forward => .reverse
  | .reverse => .forward

/-! ### The waypoint record (R2, R28, R200) -/

/-- Bytes 0–1: the stamp. -/
def IssueRegion.stamp (r : IssueRegion) : Stamp := halfOfWord r.w0 0

/-- Byte 2: the kind. -/
def IssueRegion.kind (r : IssueRegion) : Byte := byteOfWord r.w0 2

/-- Byte 3: the options. -/
def IssueRegion.options (r : IssueRegion) : Byte := byteOfWord r.w0 3

/-- Byte 4: the selector. -/
def IssueRegion.selector (r : IssueRegion) : Byte := byteOfWord r.w1 0

/-- Bytes 8–11: argument A, signed for every kind. -/
def IssueRegion.argA (r : IssueRegion) : Int := r.w2.toInt

/-- Bytes 12–15: argument B, unsigned for every kind that uses it. -/
def IssueRegion.argB (r : IssueRegion) : Nat := r.w3.toNat

/-- Bytes 16–19: the tag. -/
def IssueRegion.tag (r : IssueRegion) : Word := r.w4

/-- The stamp s of an AWAIT record: bytes 8–9 (R200). -/
def IssueRegion.awaitStamp (r : IssueRegion) : Stamp := halfOfWord r.w2 0

/-- Options bit 0. -/
def IssueRegion.notifyClose (r : IssueRegion) : Bool := r.options.getLsbD 0

/-- Options bit 1. -/
def IssueRegion.notifySlow (r : IssueRegion) : Bool := r.options.getLsbD 1

/-- Options bit 2. -/
def IssueRegion.tagValid (r : IssueRegion) : Bool := r.options.getLsbD 2

/-- Options bits 4–5: the direction field: 0 SHORTEST, 1 FORWARD, 2 REVERSE, 3 not allowed. -/
def IssueRegion.directionField (r : IssueRegion) : Nat := (r.options.extractLsb' 4 2).toNat

namespace Machine

/-! ### Code tables -/

/-- R201: the outcome code byte. -/
def Outcome.code : Outcome → Byte
  | .reached => 0x01
  | .done => 0x02
  | .missed => 0x10
  | .searchExhausted => 0x11
  | .waitExpired => 0x12
  | .abandoned => 0x20
  | .lineStopped => 0x21
  | .rejectedKind => 0x30
  | .rejectedProfile => 0x31
  | .rejectedRange => 0x32
  | .rejectedUnreferenced => 0x33
  | .rejectedArgument => 0x34
  | .stalled => 0x40
  | .timedOut => 0x41
  | .slipped => 0x42
  | .encoderLost => 0x43
  | .accessFailed => 0x50

/-- R36: REACHED and DONE are the success outcomes. -/
def Outcome.success : Outcome → Bool
  | .reached | .done => true
  | .missed | .searchExhausted | .waitExpired | .abandoned | .lineStopped | .rejectedKind | .rejectedProfile
  | .rejectedRange | .rejectedUnreferenced | .rejectedArgument | .stalled | .timedOut | .slipped
  | .encoderLost | .accessFailed => false

/-- R204: the fault kind codes. -/
def FaultKind.code : FaultKind → Nat
  | .missed => 1
  | .searchExhausted => 2
  | .waitExpired => 3
  | .rejected => 4
  | .aborted => 5
  | .lineStop => 6
  | .stalled => 7
  | .timedOut => 8
  | .slipped => 9
  | .encoderLost => 10
  | .accessFetch => 11
  | .accessStatus => 12
  | .accessClose => 13
  | .tornSlot => 14

/-- R204: the kind's bit, bit (code − 1), of the later-fault set. -/
def FaultKind.bit (k : FaultKind) : BitVec 16 := (1 : BitVec 16) <<< (k.code - 1)

/-- R204: the held cause byte, 0 for NONE. -/
def heldCauseCode : Option FaultKind → Byte
  | none => 0
  | some k => BitVec.ofNat 8 k.code

/-- R204: the axis state codes. -/
def AxisState.code : AxisState → Byte
  | .dormant => 0
  | .idle => 1
  | .rapid => 2
  | .creep => 3
  | .coasting => 4
  | .pausing => 5
  | .seeking => 6
  | .dwelling => 7
  | .awaiting => 8
  | .stopping => 9
  | .held => 10

/-- R205: the controller state codes. -/
def ControllerState.code : ControllerState → BitVec 3
  | .blank => 0
  | .loading => 1
  | .loaded => 2
  | .running => 3
  | .halting => 4

/-- R205: the result codes. -/
def Result.code : Result → Byte
  | .none => 0
  | .pending => 1
  | .done => 2
  | .refusedState => 3
  | .refusedArgument => 4
  | .refusedLatched => 5
  | .refusedAccess => 6
  | .failedSetup => 7

/-- R205: the reason codes. -/
def Reason.code : Reason → Byte
  | .outside => 1
  | .closed => 2
  | .readOnly => 3
  | .busError => 4

/-- R205: the entry number in a detail, 0xFF for no entry. -/
def entryCode : Option EntryId → Byte
  | none => 0xFF
  | some i => BitVec.ofNat 8 i.toNat

/-- R205: the setup detail codes. -/
inductive SetupDetail where
  | busError | badFormat | badAperture | badProfile | badAxis | badRoute | badStatusPage | noAxis
  deriving DecidableEq, Repr

/-- R205: the code of a setup detail. -/
def SetupDetail.code : SetupDetail → Byte
  | .busError => 1
  | .badFormat => 2
  | .badAperture => 3
  | .badProfile => 4
  | .badAxis => 5
  | .badRoute => 6
  | .badStatusPage => 7
  | .noAxis => 8

/-! ### The outcome region (R1, R33, R200) -/

/-- The leg byte: corrections used in the high nibble, legs driven in the low nibble (R34). -/
def legByte (corrections legs : Nat) : Byte := BitVec.ofNat 8 (16 * corrections + legs)

/-- The word of bytes 20–23: closure stamp, outcome code, leg byte. -/
def ClosureEntry.headWord (e : ClosureEntry) : Word :=
  e.legByte ++ e.outcome.code ++ e.record.stamp

/-- R1: the words of an outcome write in transfer order, with their offsets from slot address + 20: bytes 24–27,
bytes 28–31, bytes 20–23. -/
def ClosureEntry.writeWords (e : ClosureEntry) : List (Nat × Word) :=
  [(4, e.finalPos), (8, e.elapsed), (0, e.headWord)]

/-! ### The shadow (R157, R202, R203) -/

end Machine

/-- The eight words of a chunk in ascending order. -/
def SetupChunk.words (c : SetupChunk) : List Word := [c.w0, c.w1, c.w2, c.w3, c.w4, c.w5, c.w6, c.w7]

namespace Machine

/-- The shadow's words in address order. -/
def shadowWords (chunks : List SetupChunk) : List Word := chunks.flatMap SetupChunk.words

/-- The word of the setup block at a byte offset that is a multiple of 4. -/
def blockWord (ws : List Word) (off : Nat) : Word := ws.getD (off / 4) 0

/-- The byte of the setup block at a byte offset. -/
def blockByte (ws : List Word) (off : Nat) : Byte := byteOfWord (blockWord ws off) (off % 4)

/-- The 16-bit field of the setup block at an even byte offset. -/
def blockHalf (ws : List Word) (off : Nat) : BitVec 16 := halfOfWord (blockWord ws off) (off % 4 / 2)

/-- R202: the offset of aperture entry i. -/
def apertureOffset (i : Nat) : Nat := 0x020 + 16 * i

/-- R202: the offset of profile i. -/
def profileOffset (i : Nat) : Nat := 0x080 + 16 * i

/-- R203: the offset of the section of axis n. -/
def sectionOffset (n : Nat) : Nat := 0x100 + 64 * n

/-- R161: the enable bit of an axis in the header's enable mask. -/
def axisEnabled (ws : List Word) (n : AxisId) : Bool := (blockByte ws 0x001).getLsbD n.toNat

/-- R202: rights code, 0 NONE, 1 READ_ONLY, 2 READ_WRITE. -/
def rightsOfCode (b : Byte) : Rights := if b = 1 then .readOnly else if b = 2 then .readWrite else .none

/-- Aperture entry i of a setup block (R202). -/
def parseAperture (ws : List Word) (i : Nat) : Aperture :=
  { base := blockWord ws (apertureOffset i)
    limit := blockWord ws (apertureOffset i + 4)
    offset := blockWord ws (apertureOffset i + 8)
    rights := rightsOfCode (blockByte ws (apertureOffset i + 12))
    openAtLoad := blockByte ws (apertureOffset i + 13) == 1 }

/-- Profile i of a setup block (R202). -/
def parseProfile (ws : List Word) (i : Nat) : Profile :=
  { slow := (blockWord ws (profileOffset i)).toNat
    cut := (blockWord ws (profileOffset i + 4)).toNat
    window := (blockWord ws (profileOffset i + 8)).toNat
    retries := (blockByte ws (profileOffset i + 12)).toNat }

/-- R203: edge mode code. -/
def edgeModeOfCode (b : Byte) : EdgeMode := if b = 1 then .x1 else if b = 2 then .x2 else .x4

/-- R203: approach side code. -/
def sideOfCode (b : Byte) : Option Direction :=
  if b = 1 then some .forward else if b = 2 then some .reverse else none

/-- The section of axis n of a setup block (R203). -/
def parseSection (ws : List Word) (n : AxisId) : Section :=
  let o := sectionOffset n.toNat
  { kind := if blockByte ws o = 0 then .linear else .rotary (blockWord ws (o + 0x10)).toNat
    edge := edgeModeOfCode (blockByte ws (o + 0x01))
    output := if blockByte ws (o + 0x02) = 0 then .split else .steer
    side := sideOfCode (blockByte ws (o + 0x03))
    indexCheck := blockByte ws (o + 0x04) == 1
    settle := (blockByte ws (o + 0x05)).toNat
    tolerance := (blockByte ws (o + 0x06)).toNat
    stall := (blockHalf ws (o + 0x08)).toNat
    pause := (blockHalf ws (o + 0x0A)).toNat
    slack := (blockHalf ws (o + 0x0C)).toNat
    timeLimit := (blockHalf ws (o + 0x0E)).toNat
    lower := (blockWord ws (o + 0x14)).toInt
    upper := (blockWord ws (o + 0x18)).toInt
    indexSpan := (blockWord ws (o + 0x1C)).toNat
    routeBase := blockWord ws (o + 0x20)
    length := (blockByte ws (o + 0x24)).toNat
    s0 := blockHalf ws (o + 0x26)
    pageAddr := blockWord ws (o + 0x28) }

/-- The section of an axis if the enable mask enables it; the section of a disabled axis is not examined (R160). -/
def parseEnabled (ws : List Word) (n : AxisId) : Option Section :=
  if axisEnabled ws n then some (parseSection ws n) else none

/-- R157, R168: the working copy that a validated shadow becomes. -/
def parseSetup (ws : List Word) : Setup :=
  { enableMask := blockByte ws 0x001
    dryNotify := blockByte ws 0x002
    patrol := (blockHalf ws 0x004).toNat
    report := (blockHalf ws 0x006).toNat
    apertures := ⟨parseAperture ws 0, parseAperture ws 1, parseAperture ws 2, parseAperture ws 3,
      parseAperture ws 4, parseAperture ws 5⟩
    profiles := ⟨parseProfile ws 0, parseProfile ws 1, parseProfile ws 2, parseProfile ws 3,
      parseProfile ws 4, parseProfile ws 5, parseProfile ws 6, parseProfile ws 7⟩
    sections := ⟨parseEnabled ws .a0, parseEnabled ws .a1, parseEnabled ws .a2, parseEnabled ws .a3⟩ }

end Machine

end Sys2Proof
end

