-- ==== Sys2Proof/Machine/Flags.lean ====
section
/-! DEFINITION. Attention and the register views: ATTN, ATTN_MASK and IRQ_N (R184 to R186), the masks and fields
of CONDITION (R198), and what a read of each register returns (R188, R189, R195, R197, R205). -/

namespace Sys2Proof.Machine

/-- The ATTN bit of an axis (R184). -/
def axisAttnBit : AxisId → BitVec 6
  | .a0 => 0x01
  | .a1 => 0x02
  | .a2 => 0x04
  | .a3 => 0x08

/-- ATTN bit 4, command final (R184). -/
def commandAttnBit : BitVec 6 := 0x10

/-- ATTN bit 5, XSTOP edge (R184). -/
def xstopAttnBit : BitVec 6 := 0x20

/-- R184: an event sets bits of ATTN; a bit already set stays set. -/
def State.raise (s : State) (bits : BitVec 6) : State := { s with attn := s.attn ||| bits }

/-- R186: IRQ_N is asserted exactly while ATTN AND ATTN_MASK is not 0. -/
def State.irqAsserted (s : State) : Bool := (s.attn &&& s.attnMask) != 0

/-- One bit per axis, the bit of axis n at position n (Conventions, Indices). -/
def axisMask (f : AxisId → Bool) : BitVec 4 :=
  BitVec.ofBool (f .a3) ++ BitVec.ofBool (f .a2) ++ BitVec.ofBool (f .a1) ++ BitVec.ofBool (f .a0)

/-- R198: one bit per axis whose outcome latch is occupied. -/
def State.latchMask (s : State) : BitVec 4 := axisMask fun n => (s.axis n).seq.latch.isSome

/-- R198: one bit per axis whose last page write failed. -/
def State.staleMask (s : State) : BitVec 4 := axisMask fun n => (s.axis n).page.stale

/-- R189, R205: IDENT reads the part code and the revision. -/
def identWord : Word := 0x00024100

/-- R195, R205: a read of COMMAND: last code, result, detail, detail index. -/
def State.commandWord (s : State) : Word :=
  wordOfBytes s.cmd.lastCode s.cmd.result.code s.cmd.detail s.cmd.detailIndex

/-- R198, R205: a read of CONDITION: bits 0–2 controller state, 4 XSTOP_N level, 5 COMMAND_OVERRUN, 8–11 stale
mask, 12–15 latch mask. -/
def State.conditionWord (s : State) : Word :=
  (0 : BitVec 16) ++ s.latchMask ++ s.staleMask ++ (0 : BitVec 2) ++ BitVec.ofBool s.cmd.overrun
    ++ BitVec.ofBool s.xstopHigh ++ (0 : BitVec 1) ++ s.cmd.controller.code

/-- R188, R197: what a 32-bit read at a register offset returns. A read changes nothing, so it is no command; the
offsets without a register read as 0. A read at an offset that is no multiple of 4 addresses bytes of two registers, which the
spec leaves open; it reads as 0 (DESIGN CHOICE, assumption 36). -/
def State.readRegister (s : State) (offset : BitVec 6) : Word :=
  if offset = 0x00 then identWord
  else if offset = 0x04 then s.cmd.setupAddr
  else if offset = 0x08 then s.commandWord
  else if offset = 0x0C then 0
  else if offset = 0x10 then s.attn.zeroExtend 32
  else if offset = 0x14 then s.attnMask.zeroExtend 32
  else if offset = 0x18 then s.conditionWord
  else 0

/-- R188: a read of any width returns the addressed bytes: byte `k` of the register at `offset`, for a register's own offset
and a `k` of 0 to 3 (assumption 36). -/
def State.readRegisterByte (s : State) (offset : BitVec 6) (k : Nat) : Byte := byteOfWord (s.readRegister offset) k

/-- R177: an axis that is not DORMANT gets its page-due flag. -/
def State.pageDue (s : State) (n : AxisId) : State :=
  if (s.axis n).seq.state = .dormant then s else s.modPage n fun g => { g with due := true }

/-- R113: the referenced flag takes a value; a change of it makes the page due. -/
def State.setReferenced (s : State) (n : AxisId) (b : Bool) : State :=
  if (s.axis n).pos.referenced = b then s
  else (s.modPos n fun p => { p with referenced := b }).pageDue n

/-- R191, R193: a result becomes final: the command record takes it with its detail, no command is pending, and
ATTN bit 4 is set. -/
def State.finish (s : State) (r : Result) (detail index : Byte) : State :=
  { s with
    cmd.result := r
    cmd.detail := detail
    cmd.detailIndex := index
    cmd.pendingIndex := none
    attn := s.attn ||| commandAttnBit }

/-- R195: a command ends REFUSED_ACCESS with the reason and entry of the failed access. -/
def State.finishAccess (s : State) (f : Failure) : State :=
  s.finish .refusedAccess f.reason.code (entryCode f.entry)

end Sys2Proof.Machine
end

