-- ==== Sys2Proof/Machine/Ops.lean ====
section
/-! DEFINITION. The operations that the events share: time, position, axis state changes, discarding staging,
closing a record, entering STOPPING, HELD and IDLE, and taking a cause (chapters 1, 3 and 5). -/

namespace Sys2Proof.Machine

/-- Conventions, Numbers and units: a duration started at `start` has passed; the difference of the two time base
readings is taken modulo 2^32. -/
def timeReached (start : Word) (ms : Nat) (now : Word) : Bool := decide (ms ≤ (now - start).toNat)

/-- R188: while RESET_N is low the register port ignores writes; else the owner takes the write. -/
def State.unlessReset (s : State) (take : State → State) : State := if s.resetLow then s else take s

/-- What every axis does in one event, in ascending order. -/
def State.eachAxis (f : State → AxisId → State) (s : State) : State := f (f (f (f s .a0) .a1) .a2) .a3

/-! ### Position (R103, R104, R106, R115) -/

/-- The reported position as the number the manual computes with (R104). -/
def PositionUnit.reportedInt (p : PositionUnit) : Int :=
  match p.counting with
  | some ⟨_, .rotary m⟩ => ((p.raw.toNat : Int) + p.shift.toInt) % (m : Int)
  | some ⟨_, .linear⟩ => (p.raw + p.shift).toInt
  | none => (p.raw + p.shift).toInt

/-- The reported position as the 32 bits of the page and of the outcome region (R200, R204). -/
def PositionUnit.reported (p : PositionUnit) : Word := BitVec.ofInt 32 p.reportedInt

/-- R115: the raw count is set so that the reported position equals `a`; a reference set ends the span
measurement (R111). -/
def PositionUnit.setPosition (p : PositionUnit) (a : Int) : PositionUnit :=
  match p.counting with
  | some ⟨_, .rotary m⟩ => { p with raw := BitVec.ofInt 32 ((a - p.shift.toInt) % (m : Int)), span := none }
  | some ⟨_, .linear⟩ => { p with raw := BitVec.ofInt 32 (a - p.shift.toInt), span := none }
  | none => { p with raw := BitVec.ofInt 32 (a - p.shift.toInt), span := none }

/-- R43, R95: the distance between a position and a target, the shorter way round on a rotary axis. -/
def AxisKind.distance (k : AxisKind) (q t : Int) : Int :=
  match k with
  | .linear => ((q - t).natAbs : Int)
  | .rotary m => min ((q - t) % (m : Int)) ((t - q) % (m : Int))

/-- R108: the encoder condition is LOST while any pair is BROKEN. -/
def PairStates.lost (p : PairStates) : Bool := p.a || p.b || p.z

/-- R106: the standstill condition: the time base has reached the last change time plus the settle time. It is not
evaluated while no setup gives the unit a settle time. Once reported it stays until the next count change. -/
def State.standsStill (s : State) (n : AxisId) : Bool :=
  match (s.axis n).pos.params with
  | none => false
  | some p => (s.axis n).pos.standstill || timeReached (s.axis n).pos.lastChange p.settle s.timeBase

/-! ### Axis states -/

/-- The motion states of table 3.1, note 1. -/
def AxisState.inMotion : AxisState → Bool
  | .rapid | .creep | .coasting | .pausing | .seeking => true
  | .dormant | .idle | .dwelling | .awaiting | .stopping | .held => false

/-- The states in which the drive request is run (R56) and the stall watch runs (R107). -/
def AxisState.driving : AxisState → Bool
  | .rapid | .creep | .seeking => true
  | .dormant | .idle | .coasting | .pausing | .dwelling | .awaiting | .stopping | .held => false

/-- The sequencer takes its axis into a state. A change makes the page due (R177); entering a driving state from any
other starts the stall watch and leaving the driving states stops it (R107); a request that becomes inactive with
XSTOP_N high clears the stop lockout (R132), also where it becomes active again within the event (assumption 32). -/
def State.setAxisState (s : State) (n : AxisId) (st : AxisState) : State :=
  let u := s.axis n
  if u.seq.state = st then s
  else
    (s.setAxis n
      { u with
        seq.state := st
        pos.stallStart :=
          if st.driving then (if u.seq.state.driving then u.pos.stallStart else some s.timeBase) else none
        drive.lockout := if u.seq.state.driving && !st.driving && s.xstopHigh then false else u.drive.lockout }).pageDue n

/-- The executing record is under verification (R15). -/
def Sequencer.verifying (q : Sequencer) : Bool :=
  match q.executing with
  | some x => x.work == .verifying
  | none => false

/-- R24: staging is discarded: the queue emptied, a fetch in flight voided by forgetting its target (R10), DRY and
the notice latch cleared, the patrol timer stopped, and a record under verification put back (R18). E and C stay. -/
def State.discardStaging (s : State) (n : AxisId) : State :=
  let s := s.modRoute n fun r =>
    { r with staging := [], target := none, dry := false, noticeLatch := false, patrolStart := none }
  if (s.axis n).seq.verifying then s.modSeq n fun q => { q with executing := none } else s

/-- The pending command is the one with this code for this axis (R192). -/
def State.pendingFor (s : State) (code : Byte) (n : AxisId) : Bool :=
  s.cmd.result == .pending && s.cmd.lastCode == code && s.cmd.pendingIndex == some n.toIndex

/-- R73: a PENDING ABORT_AXIS completes DONE in the event in which its axis enters HELD. -/
def State.completeAbort (s : State) (n : AxisId) : State :=
  if s.pendingFor 0x10 n then s.finish .done 0 0 else s

/-- R60: the axis enters HELD with a held cause: staging discarded, axis ATTN bit set, page due, a pending abort of
the axis complete. -/
def State.enterHeld (s : State) (n : AxisId) (k : FaultKind) : State :=
  let s := (s.discardStaging n).setAxisState n .held
  let s := s.modSeq n fun q => { q with heldCause := some k }
  (s.raise (axisAttnBit n)).completeAbort n

/-- R61: a fault kind joins the later-fault set and sets the axis ATTN bit. -/
def State.joinLater (s : State) (n : AxisId) (k : FaultKind) : State :=
  (s.modSeq n fun q => { q with later := q.later ||| k.bit }).raise (axisAttnBit n)

/-! ### Closing a record -/

/-- R19, R48: a sequencer that waits for axis n is handed the announcement of its new last-closed stamp. Only a
waiting sequencer keeps it: any other would take it without effect. Assumption 10. -/
def Sequencer.hear (q : Sequencer) (n : AxisId) (e : Stamp) : Sequencer :=
  match q.executing with
  | none => q
  | some x =>
    match x.work with
    | .await a =>
      if a.axis = n then
        { q with executing := some { x with work := .await { a with announced := a.announced ++ [e] } } }
      else q
    | .verifying => q
    | .begun => q
    | .move _ => q
    | .search _ => q
    | .dwell _ => q

/-- The route length of an axis (R1). -/
def State.routeLength (s : State) (n : AxisId) : Nat :=
  match s.sectionOf n with
  | some c => c.length
  | none => 1

/-- R5, R19: E and C advance by one step, and the new last-closed stamp E − 1 is announced to the other axes. -/
def State.advanceStamp (s : State) (n : AxisId) : State :=
  let e := (s.axis n).route.expected
  let l := s.routeLength n
  let s := s.modRoute n fun r => { r with cursor := (r.cursor + 1) % l, expected := r.expected + 1 }
  s.eachAxis fun s m => s.modSeq m fun q => q.hear n e

/-- R19, R33, R34, R35: the sequencer decides the closure of its executing record at the time base reading `at'`:
the closure entry goes to the route unit, the executing record and its timer are cleared, E and C advance. -/
def State.closeRecordAt (s : State) (n : AxisId) (o : Outcome) (at' : Word) : State :=
  match (s.axis n).seq.executing with
  | none => s
  | some x =>
    let entry : ClosureEntry :=
      { slot := x.slot, record := x.record, outcome := o, legByte := legByte x.corrections x.legs
        finalPos := (s.axis n).pos.reported, elapsed := at' - x.startTime }
    let s := s.modSeq n fun q => { q with executing := none, stoppingOutcome := none, moveExpiry := none }
    let s := s.modRoute n fun r => { r with closure := some ⟨entry, .reread⟩ }
    s.advanceStamp n

/-- The closure decision at the present time base reading (R33). -/
def State.closeRecord (s : State) (n : AxisId) (o : Outcome) : State := s.closeRecordAt n o s.timeBase

/-- R110: the position unit hands ENCODER_LOST again: counting is ON and the encoder condition is LOST. -/
def PositionUnit.repeatsLoss (p : PositionUnit) : Bool := p.counting.isSome && p.pairs.lost

/-- The position unit hands its sequencer a notice behind those that it has not yet taken (R105). -/
def State.hand (s : State) (n : AxisId) (k : FaultKind) (o : Outcome) : State :=
  s.modSeq n fun q => { q with handed := q.handed ++ [⟨k, o⟩] }

/-- R110: while its encoder condition is LOST, the position unit hands a sequencer that has entered IDLE a repeated
ENCODER_LOST notice, which it takes once the page for that entry has been composed (`State.takeHanded`). -/
def State.repeatLoss (s : State) (n : AxisId) : State :=
  if (s.axis n).pos.repeatsLoss then s.hand n .encoderLost .encoderLost else s

/-- The axis enters IDLE; one that is IDLE already enters nothing. -/
def State.enterIdle (s : State) (n : AxisId) : State :=
  if (s.axis n).seq.state = .idle then s else (s.setAxisState n .idle).repeatLoss n

/-- R64: STOPPING ends at standstill: closure with the stopping outcome, then HELD, or IDLE where the held cause is
NONE. -/
def State.finishStopping (s : State) (n : AxisId) : State :=
  let o := (s.axis n).seq.stoppingOutcome.getD .abandoned
  let s := s.closeRecord n o
  match (s.axis n).seq.heldCause with
  | some k => s.enterHeld n k
  | none => s.enterIdle n

/-- R63: what the entry to STOPPING leaves of the state of a kind: the leg and the plan of a move are gone. -/
def KindState.stopped : KindState → KindState
  | .move m => .move { m with leg := none, plan := [] }
  | .search c => .search c
  | .verifying => .verifying
  | .begun => .begun
  | .dwell t => .dwell t
  | .await a => .await a

/-- R63, R64: an overtaking cause sends an axis in a motion state to STOPPING; where the standstill condition holds
the end of STOPPING is taken in the same event. The held cause is none for HALT_ALL. -/
def State.enterStopping (s : State) (n : AxisId) (o : Outcome) (k : Option FaultKind) : State :=
  let s := (s.discardStaging n).setAxisState n .stopping
  let s := s.modSeq n fun q =>
    { q with
      executing := q.executing.map fun x => { x with work := x.work.stopped }
      stoppingOutcome := some o
      heldCause := k
      moveExpiry := none }
  if s.standsStill n then s.finishStopping n else s

/-- R63 to R68: what a sequencer does with a cause that acts in every state of its axis: kind `k`, with outcome `o` for a
record it overtakes. A DORMANT axis takes no cause (R77). -/
def State.takeCause (s : State) (n : AxisId) (k : FaultKind) (o : Outcome) : State :=
  match (s.axis n).seq.state with
  | .dormant => s
  | .idle => s.enterHeld n k
  | .rapid => s.enterStopping n o (some k)
  | .creep => s.enterStopping n o (some k)
  | .coasting => s.enterStopping n o (some k)
  | .pausing => s.enterStopping n o (some k)
  | .seeking => s.enterStopping n o (some k)
  | .dwelling => (s.closeRecord n o).enterHeld n k
  | .awaiting => (s.closeRecord n o).enterHeld n k
  | .stopping =>
    match (s.axis n).seq.heldCause with
    | none => s.modSeq n fun q => { q with heldCause := some k }
    | some _ => s.joinLater n k
  | .held => s.joinLater n k

/-- R105: a sequencer takes a notice of its position unit, unless earlier ones wait for it: then it takes it after them. -/
def State.takeNotice (s : State) (n : AxisId) (k : FaultKind) (o : Outcome) : State :=
  if (s.axis n).seq.handed = [] then s.takeCause n k o else s.hand n k o

/-- R105, R110: a sequencer takes the notices of its position unit that wait for it, in the order handed. -/
def State.takeHanded (s : State) (n : AxisId) : State :=
  (s.axis n).seq.handed.foldl (fun s h => s.takeCause n h.kind h.outcome) (s.modSeq n fun q => { q with handed := [] })

/-- R109, R112: encoder loss and slips clear the referenced flag and hand their notice to the sequencer. -/
def State.loseReference (s : State) (n : AxisId) (k : FaultKind) (o : Outcome) : State :=
  (s.setReferenced n false).takeNotice n k o

end Sys2Proof.Machine
end

