-- ==== Sys2Proof/Machine/Drive.lean ====
section
/-! DEFINITION. The drive stage (chapter 6): the drive request of each axis state, the run, RAPID and direction
lines, the reversal pause. -/

namespace Sys2Proof.Machine

/-- R116: the direction of the current motion of a search. -/
def SearchState.motionDirection (c : SearchState) : Direction :=
  match c.motion with
  | .search => c.direction
  | .backOff => c.direction.opposite

/-- The direction in which the executing record's leg or motion runs. -/
def Sequencer.motionDirection (q : Sequencer) : Option Direction :=
  match q.executing with
  | none => none
  | some x =>
    match x.work with
    | .move m => m.leg.map Leg.direction
    | .search c => some c.motionDirection
    | .verifying => none
    | .begun => none
    | .dwell _ => none
    | .await _ => none

/-- R56: the drive request: run in a direction, with RAPID active or inactive, or inactive. -/
def Sequencer.request (q : Sequencer) : Option (Direction × Bool) :=
  match q.state with
  | .rapid => q.motionDirection.map fun d => (d, true)
  | .creep => q.motionDirection.map fun d => (d, false)
  | .seeking => q.motionDirection.map fun d => (d, false)
  | .dormant => none
  | .idle => none
  | .coasting => none
  | .pausing => none
  | .dwelling => none
  | .awaiting => none
  | .stopping => none
  | .held => none

/-- R130: driving in direction d needs a reversal pause. -/
def DriveStage.needsPause (v : DriveStage) (d : Direction) : Bool :=
  v.lastDir == some d.opposite && !v.revClear

/-- The direction for which the run line is active (R124). In SPLIT mode a direction line that STEER mode left to
its hold time (R127) is no run line. -/
def DriveStage.running (v : DriveStage) : Option Direction :=
  match v.mode with
  | .none => none
  | .split => if v.dirDrop then none else if v.runFwd then some .forward else if v.runRev then some .reverse else none
  | .steer => if v.runFwd then some (if v.runRev then .reverse else .forward) else none

/-- R126, R128, R129: the run line becomes active for direction d: RAPID with it as requested, d the last driven
direction, reversal clear and rest start gone. -/
def DriveStage.activate (v : DriveStage) (d : Direction) (fast : Bool) : DriveStage :=
  let v := { v with rapid := fast, lastDir := some d, revClear := false, restStart := none }
  match v.mode with
  | .none => { v with rapid := false }
  | .split => { v with runFwd := d == .forward, runRev := d == .reverse }
  | .steer => { v with runFwd := true, dirHold := false, dirDrop := false }

/-- R126, R127: the run line and RAPID go inactive; in STEER mode the direction line keeps its level and its hold
time starts. -/
def DriveStage.deactivate (v : DriveStage) : DriveStage :=
  match v.mode with
  | .none => { v with rapid := false }
  | .split => { v with runFwd := false, runRev := false, rapid := false }
  | .steer => { v with runFwd := false, rapid := false, dirHold := true }

/-- R125 to R127: the lines follow what may run now: `want` is the request that meets every condition of R125. An
opposite direction first takes the run line inactive; in STEER mode a direction line that shows the other direction
changes first, not before its hold time has passed, and run follows when the setup time has passed. In SPLIT mode a
run line waits for the hold time of a direction line that STEER mode left active (`dirDrop`); the hold time of one that STEER
mode left inactive (`dirHold` without `dirDrop`) holds no SPLIT run line back, of either direction: it becomes active at once.
Both are the model's choice (DESIGN CHOICE, assumption 31). Where a commit has brought STEER
mode back in that time, a run line wanted in the direction that the line still shows becomes active at once and the line stays
active, and one wanted forward waits for the hold time and for the setup time after it (assumption 35). -/
def DriveStage.follow (v : DriveStage) (want : Option (Direction × Bool)) : DriveStage :=
  match v.running, want with
  | some a, some (d, fast) => if a = d then { v with rapid := fast } else v.deactivate
  | some _, none => v.deactivate
  | none, none => v
  | none, some (d, fast) =>
    match v.mode with
    | .none => v
    | .split => if v.dirDrop then v else v.activate d fast
    | .steer =>
      if v.runRev = (d == .reverse) then (if v.dirSetup then v else v.activate d fast)
      else if v.dirHold then v
      else { v with runRev := d == .reverse, dirSetup := true }

/-- R129: the rest start is NONE while the run line is active or the axis does not stand still; otherwise it is the
reading of the event that made the later of the two true. A pause of 0 ms sets the reversal clear flag in it. -/
def DriveStage.rest (v : DriveStage) (standing : Bool) (now : Word) : DriveStage :=
  if v.running.isSome || !standing then { v with restStart := none }
  else
    match v.restStart with
    | some _ => v
    | none => { v with restStart := some now, revClear := v.revClear || v.pause == 0 }

/-- R125: the request of axis n if every condition for its run line holds. -/
def State.runWanted (s : State) (n : AxisId) : Option (Direction × Bool) :=
  match (s.axis n).seq.request with
  | none => none
  | some (d, fast) =>
    if s.cmd.controller = .running && s.xstopHigh && !(s.axis n).drive.lockout && !(s.axis n).drive.needsPause d then
      some (d, fast)
    else none

/-- The drive stage of axis n re-evaluates its lines and its rest start in an event (R125, R129). -/
def State.evalDrive (s : State) (n : AxisId) : State :=
  s.modDrive n fun v => (v.follow (s.runWanted n)).rest (s.standsStill n) s.timeBase

end Sys2Proof.Machine
end

