-- ==== Sys2Proof/Machine/Motion.lean ====
section
/-! DEFINITION. Legs and searches: leg start, drive decision, zones, coast end, corrections (chapter 4), and the
motions of a reference search (5.6). The functions are layered so that what happens within one event needs no
recursion: a leg that starts with a positive distance always stops at PAUSING or at its zone. -/

namespace Sys2Proof.Machine

/-- The executing record of axis n takes a new state of its kind. -/
def State.setWork (s : State) (n : AxisId) (w : KindState) : State :=
  s.modSeq n fun q => { q with executing := q.executing.map fun x => { x with work := w } }

/-- R34: one more leg driven, or one more search motion driven. -/
def State.countLeg (s : State) (n : AxisId) : State :=
  s.modSeq n fun q => { q with executing := q.executing.map fun x => { x with legs := x.legs + 1 } }

/-- R34, R96: one more correction used. -/
def State.countCorrection (s : State) (n : AxisId) : State :=
  s.modSeq n fun q => { q with executing := q.executing.map fun x => { x with corrections := x.corrections + 1 } }

/-- The profile that a selector names, as the setup store holds it now (R80). -/
def State.profile (s : State) (selector : Byte) : Profile :=
  match s.setup, ProfileId.ofSelector selector with
  | some c, some p => c.profiles.get p
  | some _, none => ⟨0, 0, 0, 0⟩
  | none, _ => ⟨0, 0, 0, 0⟩

/-- R82: the leg that comes into existence from a planned leg with distance-to-go g0 and the profile captured now. -/
def PlannedLeg.start (p : PlannedLeg) (captured : Profile) (g0 : Int) : Leg :=
  { role := p.role, cls := p.cls, direction := p.direction, aim := p.aim, togo := g0, captured := captured,
    cutPoint := none }

/-- R90: the zone and the cut point that the drive decision gives a leg whose distance-to-go is positive. -/
def Leg.zone (l : Leg) : AxisState × Nat :=
  if (l.captured.slow : Int) < l.togo then
    match l.cls with
    | .first => (.rapid, l.captured.cut)
    | .correction => (.creep, l.captured.cut)
  else if (l.captured.cut : Int) < l.togo then (.creep, l.captured.cut)
  else (.creep, 0)

/-- R90: the drive decision of a leg whose distance-to-go is positive. -/
def State.driveZone (s : State) (n : AxisId) (m : MoveState) (l : Leg) : State :=
  let z := l.zone
  ((s.setWork n (.move { m with leg := some { l with cutPoint := some z.2 } })).countLeg n).setAxisState n z.1

/-- R88: a leg start with g0 > 0: PAUSING where the drive stage needs a reversal pause, else the drive decision. -/
def State.startMoving (s : State) (n : AxisId) (m : MoveState) (l : Leg) : State :=
  if (s.axis n).drive.needsPause l.direction then
    (s.setWork n (.move { m with leg := some l })).setAxisState n .pausing
  else s.driveZone n m l

/-- R90 fourth row, R92: a leg with g ≤ 0 enters CREEP, counts as driven, and passes to COASTING in the event. -/
def State.cutAtOnce (s : State) (n : AxisId) (m : MoveState) (l : Leg) : State :=
  let s := (s.setWork n (.move { m with leg := some { l with cutPoint := some 0 } })).countLeg n
  (s.setAxisState n .creep).setAxisState n .coasting

/-- R97: a move closes MISSED and its axis goes straight to HELD. -/
def State.missMove (s : State) (n : AxisId) : State := (s.closeRecord n .missed).enterHeld n .missed

/-- R96 step 1: the needed direction of a correction from q to the target. -/
def AxisKind.correctionDirection (k : AxisKind) (q t : Int) : Direction :=
  match k with
  | .linear => if q < t then .forward else .reverse
  | .rotary m => if (t - q) % (m : Int) ≤ (q - t) % (m : Int) then .forward else .reverse

/-- R87, R96: a take-up leg is planned where the approach side is not NONE, the slack is not 0 and the direction
differs from the approach side. -/
def Section.takesUp (c : Section) (d : Direction) : Option Direction :=
  match c.side with
  | none => none
  | some p => if 0 < c.slack && p != d then some p else none

/-- R87: the take-up point, S beyond the target in direction d. -/
def Section.takeUpPoint (c : Section) (target : Int) (d : Direction) : Int :=
  match c.kind with
  | .linear => target + d.sign * (c.slack : Int)
  | .rotary m => (target + d.sign * (c.slack : Int)) % (m : Int)

/-- R31, R97: a point lies within the limits of a linear axis; a rotary axis has none. -/
def Section.withinLimits (c : Section) (x : Int) : Bool :=
  match c.kind with
  | .linear => decide (c.lower ≤ x ∧ x ≤ c.upper)
  | .rotary _ => true

/-- R96, R97: a correction is planned at distance e from the target and its first leg starts, or the move closes
MISSED where the take-up point lies outside the limits. -/
def State.planCorrection (s : State) (n : AxisId) (c : Section) (m : MoveState) (captured : Profile) (q e : Int) :
    State :=
  let d := c.kind.correctionDirection q m.target
  match c.takesUp d with
  | some p =>
    let aim := c.takeUpPoint m.target d
    if c.withinLimits aim then
      let up : PlannedLeg := ⟨.takeUp, .correction, d, aim⟩
      let fin : PlannedLeg := ⟨.final, .correction, p, m.target⟩
      (s.countCorrection n).startMoving n { m with leg := none, plan := [fin] } (up.start captured (e + (c.slack : Int)))
    else s.missMove n
  | none =>
    let fin : PlannedLeg := ⟨.final, .correction, d, m.target⟩
    (s.countCorrection n).startMoving n { m with leg := none, plan := [] } (fin.start captured e)

/-- R95 to R97: the coast end of a FINAL leg: REACHED within the window it captured, else a correction while fewer
than its captured retries are used, else MISSED. -/
def State.evaluateFinal (s : State) (n : AxisId) (x : Executing) (m : MoveState) (l : Leg) : State :=
  match s.sectionOf n with
  | none => s
  | some c =>
    let q := (s.axis n).pos.reportedInt
    let e := c.kind.distance q m.target
    let s := s.setWork n (.move { m with leg := none })
    if e ≤ (l.captured.window : Int) then (s.closeRecord n .reached).enterIdle n
    else if x.corrections < l.captured.retries then
      s.planCorrection n c m (s.profile x.record.selector) q e
    else s.missMove n

/-- R88, R90, R94, R99: a FINAL leg starts with any g0; one with g0 ≤ 0 is cut at once, and its coast end is taken in
the event where the axis stands still (R93). -/
def State.startFinal (s : State) (n : AxisId) (x : Executing) (m : MoveState) (l : Leg) : State :=
  if 0 < l.togo then s.startMoving n m l
  else
    let s := s.cutAtOnce n m l
    if s.standsStill n then s.evaluateFinal n x { m with leg := some l } l else s

/-- R93, R94: the coast end of a leg: a TAKE_UP leg starts the FINAL leg that waits in the plan with
g0 = S − remainder; a FINAL leg is evaluated. -/
def State.coastEndLeg (s : State) (n : AxisId) (x : Executing) (m : MoveState) (l : Leg) : State :=
  match l.role with
  | .final => s.evaluateFinal n x m l
  | .takeUp =>
    match s.sectionOf n, m.plan with
    | some c, p :: rest =>
      s.startFinal n x { m with leg := none, plan := rest }
        (p.start (s.profile x.record.selector) ((c.slack : Int) - l.togo))
    | some _, [] => s
    | none, _ => s

/-- R116 step 5, R117: the search motion of a search starts: PAUSING where the drive stage needs a reversal pause,
else SEEKING, counted as driven. -/
def State.startSearchMotion (s : State) (n : AxisId) (c : SearchState) : State :=
  let c := { c with motion := .search }
  if (s.axis n).drive.needsPause c.direction then (s.setWork n (.search c)).setAxisState n .pausing
  else ((s.setWork n (.search c)).countLeg n).setAxisState n .seeking

/-- R117, R119: the coast end of a search: after the qualifying pulse the flag is set and the record closes DONE;
after a back-off the search motion starts. -/
def State.coastEndSearch (s : State) (n : AxisId) (c : SearchState) : State :=
  if c.qualified then (((s.setReferenced n true).closeRecord n .done).enterIdle n)
  else s.startSearchMotion n c

/-- R93, R117, R119: the coast end of the executing record, taken at standstill. -/
def State.coastEnd (s : State) (n : AxisId) : State :=
  match (s.axis n).seq.executing with
  | none => s
  | some x =>
    match x.work with
    | .move m =>
      match m.leg with
      | some l => s.coastEndLeg n x m l
      | none => s
    | .search c => s.coastEndSearch n c
    | .verifying => s
    | .begun => s
    | .dwell _ => s
    | .await _ => s

/-- R92, R93: the axis passes to COASTING; where it stands still already the coast end is taken in the event. -/
def State.enterCoasting (s : State) (n : AxisId) : State :=
  let s := s.setAxisState n .coasting
  if s.standsStill n then s.coastEnd n else s

/-- R117: a back-off enters SEEKING, counted as driven; with REF inactive already it passes to COASTING in the event. -/
def State.enterBackOff (s : State) (n : AxisId) (c : SearchState) : State :=
  let s := ((s.setWork n (.search { c with motion := .backOff })).countLeg n).setAxisState n .seeking
  if (s.axis n).seq.refHanded then s else s.enterCoasting n

/-- R116 steps 4 and 5: the first motion of a search. -/
def State.startSearch (s : State) (n : AxisId) (c : SearchState) (backOff : Bool) : State :=
  if backOff then
    let c := { c with motion := .backOff }
    if (s.axis n).drive.needsPause c.direction.opposite then (s.setWork n (.search c)).setAxisState n .pausing
    else s.enterBackOff n c
  else s.startSearchMotion n c

/-- R89, R90: the drive decision of a PAUSING leg with the value g holds when the pause ends. -/
def State.pausedLeg (s : State) (n : AxisId) (x : Executing) (m : MoveState) (l : Leg) : State :=
  if 0 < l.togo then s.driveZone n m l
  else
    let s := s.cutAtOnce n m l
    if s.standsStill n then
      s.coastEndLeg n { x with legs := x.legs + 1 } { m with leg := some l } l
    else s

/-- R89, R116, R130: a PAUSING sequencer takes pause elapsed: the leg's drive decision, or SEEKING for the motion of
a search. -/
def State.takePauseElapsed (s : State) (n : AxisId) : State :=
  if (s.axis n).seq.state = .pausing then
    match (s.axis n).seq.executing with
    | none => s
    | some x =>
      match x.work with
      | .move m =>
        match m.leg with
        | some l => s.pausedLeg n x m l
        | none => s
      | .search c =>
        match c.motion with
        | .backOff => s.enterBackOff n c
        | .search => ((s.setWork n (.search c)).countLeg n).setAxisState n .seeking
      | .verifying => s
      | .begun => s
      | .dwell _ => s
      | .await _ => s
  else s

/-- R130: the direction for which a PAUSING axis waits needs no pause now. -/
def AxisUnit.pauseOver (u : AxisUnit) : Bool :=
  u.seq.state == .pausing &&
    match u.seq.motionDirection with
    | some d => !u.drive.needsPause d
    | none => false

end Sys2Proof.Machine
end

