-- ==== Sys2Proof/Machine/Records.lean ====
section
/-! DEFINITION. Validation and execution start of a waypoint record (chapter 2, R85 to R87, R116): what each of the
seven kinds does with its fields. -/

namespace Sys2Proof.Machine

/-- The seven waypoint kinds (table 2.1). -/
inductive WaypointKind where
  | moveTo | moveBy | seekReference | setShift | dwell | await | retune
  deriving DecidableEq, Repr

/-- R29 step 1: the kind a kind byte names. -/
def WaypointKind.ofCode (b : Byte) : Option WaypointKind :=
  if b = 0x01 then some .moveTo else if b = 0x02 then some .moveBy else if b = 0x03 then some .seekReference
  else if b = 0x04 then some .setShift else if b = 0x05 then some .dwell else if b = 0x06 then some .await
  else if b = 0x07 then some .retune else none

/-- R51: the new value is accepted for the field of the profile that argument A names. -/
def Profile.accepts (p : Profile) (field : Int) (value : Nat) : Bool :=
  if field = 0 then decide (value ≤ 2147483647 ∧ p.cut ≤ value)
  else if field = 1 then decide (value ≤ p.slow)
  else if field = 2 then decide (value ≤ 2147483647)
  else if field = 3 then decide (value ≤ 3)
  else false

/-- R51: the profile with the named field replaced. -/
def Profile.retuned (p : Profile) (field : Int) (value : Nat) : Profile :=
  if field = 0 then { p with slow := value }
  else if field = 1 then { p with cut := value }
  else if field = 2 then { p with window := value }
  else if field = 3 then { p with retries := value }
  else p

/-- R42, R44: the target of a move from the reported position p. -/
def Section.moveTarget (c : Section) (k : WaypointKind) (a p : Int) : Int :=
  match k, c.kind with
  | .moveBy, .linear => p + a
  | .moveBy, .rotary m => (p + a) % (m : Int)
  | _, _ => a

/-- R85: the direction where the distance is 0: the approach side, FORWARD if it is NONE. -/
def Section.standDirection (c : Section) : Direction := c.side.getD .forward

/-- R85: the direction of the first plan of a move. -/
def Section.moveDirection (c : Section) (k : WaypointKind) (policy : Nat) (a p : Int) : Direction :=
  match k, c.kind with
  | .moveBy, _ => if 0 < a then .forward else if a < 0 then .reverse else c.standDirection
  | _, .linear => if p < a then .forward else if a < p then .reverse else c.standDirection
  | _, .rotary m =>
    if policy = 1 then .forward
    else if policy = 2 then .reverse
    else
      let f := (a - p) % (m : Int)
      let r := (p - a) % (m : Int)
      if f = 0 ∧ r = 0 then c.standDirection else if f ≤ r then .forward else .reverse

/-- R86: the travel T of the first plan in direction d. -/
def Section.moveTravel (c : Section) (k : WaypointKind) (d : Direction) (a p : Int) : Int :=
  match k, c.kind with
  | .moveBy, _ => (a.natAbs : Int)
  | _, .linear => ((a - p).natAbs : Int)
  | _, .rotary m =>
    match d with
    | .forward => (a - p) % (m : Int)
    | .reverse => (p - a) % (m : Int)

/-- R31: step 5 of validation for a move: the target, and on a linear axis the take-up point of the first plan, lie
within range. -/
def Section.moveInRange (c : Section) (k : WaypointKind) (a p : Int) (window : Nat) : Bool :=
  let t := c.moveTarget k a p
  match c.kind with
  | .linear =>
    let d : Direction := if p < t then .forward else .reverse
    c.withinLimits t &&
      (if (window : Int) < ((t - p).natAbs : Int) && (c.takesUp d).isSome then c.withinLimits (c.takeUpPoint t d) else true)
  | .rotary m =>
    match k with
    | .moveBy => true
    | _ => decide (0 ≤ a ∧ a < (m : Int))

/-- R30: step 3 of validation for the record of axis n. -/
def State.argumentsValid (s : State) (n : AxisId) (c : Section) (k : WaypointKind) (r : IssueRegion) : Bool :=
  match k with
  | .moveTo =>
    match c.kind with
    | .linear => true
    | .rotary _ => decide (r.directionField ≤ 2)
  | .moveBy => decide (r.argA ≠ -2147483648)
  | .seekReference =>
    if r.selector = 2 then true
    else
      decide (r.selector = 0 ∨ r.selector = 1) && decide (r.directionField = 1 ∨ r.directionField = 2)
        && decide (1 ≤ r.argB ∧ r.argB ≤ 2147483647)
  | .setShift => true
  | .dwell => decide (1 ≤ r.argA ∧ r.argA ≤ 65535)
  | .await =>
    match AxisId.ofIndex r.selector with
    | none => false
    | some k => k != n && (s.axis k).seq.state != .dormant && decide (r.argB ≤ 65535)
  | .retune => (s.profile r.selector).accepts r.argA r.argB

/-- R29: the five checks in order; the code of the first that fails. -/
def State.validate (s : State) (n : AxisId) (c : Section) (r : IssueRegion) : Option Outcome :=
  match WaypointKind.ofCode r.kind with
  | none => some .rejectedKind
  | some k =>
    let usesProfile := k == .moveTo || k == .moveBy || k == .retune
    let moves := k == .moveTo || k == .moveBy
    if usesProfile && (ProfileId.ofSelector r.selector).isNone then some .rejectedProfile
    else if !s.argumentsValid n c k r then some .rejectedArgument
    else if moves && !(s.axis n).pos.referenced then some .rejectedUnreferenced
    else if moves && !c.moveInRange k r.argA (s.axis n).pos.reportedInt (s.profile r.selector).window then
      some .rejectedRange
    else none

/-- R69: the move time limit timer starts; its expiry reading, none where the limit is off. -/
def State.startMoveTimer (s : State) (n : AxisId) (c : Section) : State :=
  s.modSeq n fun q =>
    { q with moveExpiry := if c.timeLimit = 0 then none else some (s.timeBase + BitVec.ofNat 32 (100 * c.timeLimit)) }

/-- R42 to R44, R85 to R88, R99: a validated move: REACHED at once within the window at standstill, else the first
plan and its first leg. -/
def State.startMove (s : State) (n : AxisId) (c : Section) (x : Executing) (k : WaypointKind) : State :=
  let r := x.record
  let p := (s.axis n).pos.reportedInt
  let prof := s.profile r.selector
  let t := c.moveTarget k r.argA p
  let far := decide ((prof.window : Int) < c.kind.distance p t)
  if !far && s.standsStill n then s.closeRecord n .reached
  else
    let d := c.moveDirection k r.directionField r.argA p
    let g := c.moveTravel k d r.argA p
    let s := s.startMoveTimer n c
    match (if far then c.takesUp d else none) with
    | some side =>
      let up : PlannedLeg := ⟨.takeUp, .first, d, c.takeUpPoint t d⟩
      let fin : PlannedLeg := ⟨.final, .first, side, t⟩
      s.startMoving n ⟨t, none, [fin]⟩ (up.start prof (g + (c.slack : Int)))
    | none =>
      let fin : PlannedLeg := ⟨.final, .first, d, t⟩
      s.startFinal n x ⟨t, none, []⟩ (fin.start prof g)

/-- R45, R115, R116: a validated SEEK_REFERENCE: SOFT at once, else a search. -/
def State.startSeek (s : State) (n : AxisId) (c : Section) (r : IssueRegion) : State :=
  if r.selector = 2 then
    let s := s.modPos n fun p => p.setPosition r.argA
    (s.setReferenced n true).closeRecord n .done
  else
    let s := (s.setReferenced n false).startMoveTimer n c
    let d : Direction := if r.directionField = 1 then .forward else .reverse
    s.startSearch n ⟨d, .search, 0, false⟩ (r.selector == 0 && (s.axis n).seq.refHanded)

/-- R48: the wait for stamp `e` of axis k is satisfied by its last-closed stamp. -/
def State.awaitSatisfied (s : State) (k : AxisId) (e : Stamp) : Bool :=
  stampAtOrAfter ((s.axis k).route.expected - 1) e

/-- R48: a validated AWAIT: DONE at once where it is satisfied, else AWAITING. -/
def State.startAwait (s : State) (n : AxisId) (r : IssueRegion) : State :=
  match AxisId.ofIndex r.selector with
  | none => s
  | some k =>
    if s.awaitSatisfied k r.awaitStamp then s.closeRecord n .done
    else
      let deadline := if r.argB = 0 then none else some (s.timeBase + r.w3)
      (s.setWork n (.await ⟨k, r.awaitStamp, deadline, []⟩)).setAxisState n .awaiting

/-- R51: a validated RETUNE writes its field and closes DONE. -/
def State.startRetune (s : State) (n : AxisId) (r : IssueRegion) : State :=
  match s.setup, ProfileId.ofSelector r.selector with
  | some c, some i =>
    let s := { s with setup := some { c with profiles := c.profiles.set i ((c.profiles.get i).retuned r.argA r.argB) } }
    s.closeRecord n .done
  | some _, none => s
  | none, _ => s

/-- R57: the event of execution start for a record that passes validation. -/
def State.startKind (s : State) (n : AxisId) (c : Section) (x : Executing) (k : WaypointKind) : State :=
  match k with
  | .moveTo => s.startMove n c x .moveTo
  | .moveBy => s.startMove n c x .moveBy
  | .seekReference => s.startSeek n c x.record
  | .setShift => (s.modPos n fun p => { p with shift := x.record.w2 }).closeRecord n .done
  | .dwell => (s.setWork n (.dwell (s.timeBase + x.record.w2))).setAxisState n .dwelling
  | .await => s.startAwait n x.record
  | .retune => s.startRetune n x.record

/-- R16, R32, R57: execution starts: the start time is taken, the record validated, and closed with its rejection
code, the axis going HELD with REJECTED, or executed. -/
def State.executionStart (s : State) (n : AxisId) (x : Executing) : State :=
  match s.sectionOf n with
  | none => s
  | some c =>
    let x := { x with work := .begun, startTime := s.timeBase, legs := 0, corrections := 0 }
    let s := s.modSeq n fun q => { q with executing := some x }
    match s.validate n c x.record with
    | some o => (s.closeRecord n o).enterHeld n .rejected
    | none =>
      match WaypointKind.ofCode x.record.kind with
      | some k => s.startKind n c x k
      | none => s

end Sys2Proof.Machine
end

