-- ==== Sys2Proof/Machine/Route.lean ====
section
/-! DEFINITION. The route unit (chapter 1): fetch, take, verification, closure work, delivery of a latched outcome,
and what the part does for an axis at the end of every event (`State.conclude`). -/

namespace Sys2Proof.Machine

/-- R7, R8: the route unit has none of its own accesses requested, granted or in progress. -/
def State.routeFree (s : State) (n : AxisId) : Bool :=
  (s.port.waiting.get n).isNone &&
    match s.port.access with
    | none => true
    | some a =>
      match a.kind with
      | .route m _ => m != n
      | .chunk _ => true
      | .page _ => true

/-- R140, R8: the route unit places a request at the arbiter. -/
def State.request (s : State) (n : AxisId) (k : RouteAccess) (addr : Word) (data : List (Nat × Word)) : State :=
  { s with port.waiting := s.port.waiting.set n (some ⟨k, addr, data⟩) }

/-- R1: the part-side address of slot j. -/
def Section.slotAddr (c : Section) (j : Nat) : Word := c.routeBase + BitVec.ofNat 32 (32 * j)

/-- R1: the part-side address of the outcome region of slot j. -/
def Section.outcomeAddr (c : Section) (j : Nat) : Word := c.slotAddr j + 20

/-- R7: k, the number of staged records plus one if an executing record is present. -/
def AxisUnit.ahead (u : AxisUnit) : Nat := u.route.staging.length + (if u.seq.executing.isSome then 1 else 0)

/-- R7: the fetch conditions other than DRY clear. -/
def State.fetchReady (s : State) (n : AxisId) : Bool :=
  s.cmd.controller == .running
    && (s.axis n).seq.state != .held && (s.axis n).seq.state != .stopping && (s.axis n).seq.state != .dormant
    && decide ((s.axis n).route.staging.length < 2) && s.routeFree n

/-- R7: a fetch starts for slot C + k and stamp E + k: the target is recorded and the notice latch cleared. -/
def State.startFetch (s : State) (n : AxisId) : State :=
  match s.sectionOf n with
  | none => s
  | some c =>
    let k := (s.axis n).ahead
    let slot := ((s.axis n).route.cursor + k) % c.length
    let stamp := (s.axis n).route.expected + BitVec.ofNat 16 k
    (s.modRoute n fun r => { r with target := some ⟨slot, stamp⟩, noticeLatch := false }).request n .fetch
      (c.slotAddr slot) []

/-- R15: an IDLE axis of a RUNNING controller with no executing record and no closure work takes the head of its
staging queue, which is then under verification. A sequencer for which a repeated ENCODER_LOST notice waits takes no record
(R110, assumption 9). -/
def State.takeHead (s : State) (n : AxisId) : State :=
  let u := s.axis n
  match u.route.staging with
  | [] => s
  | g :: rest =>
    if u.seq.state = .idle && u.seq.executing.isNone && s.cmd.controller = .running && u.route.closure.isNone
        && u.seq.handed.isEmpty then
      s.setAxis n
        { u with
          route.staging := rest
          seq.executing := some
            { record := g.record, slot := g.slot, startTime := s.timeBase, legs := 0, corrections := 0,
              work := .verifying } }
    else s

/-- R8: the route unit starts the next access it has work for: closure work first, then verification, then a fetch. A
delivery (R151) is made while its axis is HELD, when there is none of the three. -/
def State.routeAdvance (s : State) (n : AxisId) : State :=
  let s := s.takeHead n
  if s.routeFree n then
    match s.sectionOf n with
    | none => s
    | some c =>
      let u := s.axis n
      match u.route.closure with
      | some ⟨e, .reread⟩ => s.request n .closureReread (c.slotAddr e.slot) []
      | some ⟨e, .write⟩ => s.request n .outcomeWrite (c.outcomeAddr e.slot) e.writeWords
      | none =>
        match u.seq.delivery, u.seq.latch with
        | some .reread, some e => s.request n .deliveryReread (c.slotAddr e.slot) []
        | some .write, some e => s.request n .deliveryWrite (c.outcomeAddr e.slot) e.writeWords
        | some _, none => s
        | none, _ =>
          match u.seq.executing with
          | some x =>
            if x.work = .verifying then s.request n .verification (c.slotAddr x.slot) []
            else if s.fetchReady n && !u.route.dry then s.startFetch n else s
          | none => if s.fetchReady n && !u.route.dry then s.startFetch n else s
  else s

/-- R125, R129, R130: the drive stage follows the event; a PAUSING sequencer whose direction needs no pause takes
pause elapsed in the same event, and the lines follow. A run line that this event took inactive is not followed by the
other one before a later event (R125, assumption 25). -/
def State.driveStep (s : State) (n : AxisId) : State :=
  let was := (s.axis n).drive.running
  let s := s.evalDrive n
  if (s.axis n).pauseOver then
    let s := s.takePauseElapsed n
    if was.isSome then s else s.evalDrive n
  else s

/-- R71: the axis is settled for the halt. -/
def State.settledNow (s : State) (n : AxisId) : Bool :=
  match (s.axis n).seq.state with
  | .dormant => true
  | .idle => s.standsStill n && (s.axis n).route.closure.isNone
  | .held => s.standsStill n && (s.axis n).route.closure.isNone
  | .rapid => false
  | .creep => false
  | .coasting => false
  | .pausing => false
  | .seeking => false
  | .dwelling => false
  | .awaiting => false
  | .stopping => false

/-- R71: while HALT_ALL is pending, the sequencer tells the command unit when its axis becomes settled or ceases to be
settled. -/
def State.tellSettled (s : State) (n : AxisId) : State :=
  match s.cmd.halt with
  | none => s
  | some h =>
    let b := s.settledNow n
    if h.told.get n = b then s
    else
      { s with cmd.halt := some { h with told := h.told.set n b, reports := h.reports.set n (h.reports.get n ++ [b]) } }

/-- What holds at the end of every event of axis n: the drive stage has followed (R125, R129), the route unit has
started the access it has work for (R7, R8, R15), and the settled status has been told (R71). Assumption 12. -/
def State.conclude (s : State) (n : AxisId) : State := ((s.driveStep n).routeAdvance n).tellSettled n

/-- The end of an event that concerns every axis. -/
def State.concludeAll (s : State) : State := s.eachAxis State.conclude

/-! ### The ends of the route unit's accesses -/

/-- R11, R14: DRY is set, or stays set after a patrol fetch; the patrol timer starts unless the interval is 0; a change
from clear to set raises the dry-notify attention. -/
def State.setDry (s : State) (n : AxisId) : State :=
  match s.setup with
  | none => s
  | some c =>
    let was := (s.axis n).route.dry
    let s := s.modRoute n fun r =>
      { r with dry := true, patrolStart := if c.patrol = 0 then none else some s.timeBase }
    if !was && c.dryNotify.getLsbD n.toNat then s.raise (axisAttnBit n) else s

/-- R9, R10, R14: the end of a fetch: dropped where it was voided, failed, published or unpublished. -/
def State.fetchEnded (s : State) (n : AxisId) (answer : Except Failure IssueRegion) : State :=
  match (s.axis n).route.target with
  | none => s
  | some t =>
    let s := s.modRoute n fun r => { r with target := none }
    match answer with
    | .error _ => s.takeCause n .accessFetch .accessFailed
    | .ok r =>
      if r.stamp = t.stamp then
        s.modRoute n fun u => { u with staging := u.staging ++ [⟨t.slot, r⟩], dry := false, patrolStart := none }
      else if (s.axis n).route.noticeLatch then s
      else s.setDry n

/-- R17, R176: a torn slot at execution start: counted as closed without an outcome, handed to the reporter with code
0, the axis HELD with TORN_SLOT. -/
def State.tornStart (s : State) (n : AxisId) (x : Executing) : State :=
  let s := s.modSeq n fun q => { q with executing := none }
  let s := s.advanceStamp n
  let s := (s.modPage n fun g => { g with tornStamp := x.record.stamp, tornCode := 0, tornSeen := true }).pageDue n
  (s.raise (axisAttnBit n)).enterHeld n .tornSlot

/-- R16 to R18: the end of a verification re-read: dropped where its record was put back, a failure, a match, or a
torn slot. -/
def State.verificationEnded (s : State) (n : AxisId) (answer : Except Failure IssueRegion) : State :=
  match (s.axis n).seq.executing with
  | none => s
  | some x =>
    if x.work = .verifying then
      match answer with
      | .error _ => s.takeCause n .accessFetch .accessFailed
      | .ok r => if r = x.record then s.executionStart n x else s.tornStart n x
    else s

/-- R39, R176: the last tag of a closed record that carried TAG_VALID. -/
def PageUnit.takeTag (g : PageUnit) (r : IssueRegion) : PageUnit := if r.tagValid then { g with lastTag := r.tag } else g

/-- R22, R150: a failed closure access moves the closure entry into the outcome latch, with ACCESS_CLOSE. -/
def State.fillLatch (s : State) (n : AxisId) (e : ClosureEntry) : State :=
  let s := s.modRoute n fun r => { r with closure := none }
  let s := s.modSeq n fun q => { q with latch := some e }
  let s := (s.modPage n fun g =>
    { g.takeTag e.record with tornStamp := e.record.stamp, tornCode := e.outcome.code, tornSeen := false }).pageDue n
  (s.raise (axisAttnBit n)).takeCause n .accessClose .accessFailed

/-- R21: a torn closure: the outcome is dropped and reported as torn seen, with TORN_SLOT. -/
def State.tornClosure (s : State) (n : AxisId) (e : ClosureEntry) : State :=
  let s := s.modRoute n fun r => { r with closure := none }
  let s := (s.modPage n fun g =>
    { g.takeTag e.record with tornStamp := e.record.stamp, tornCode := e.outcome.code, tornSeen := true }).pageDue n
  (s.raise (axisAttnBit n)).takeCause n .tornSlot .accessFailed

/-- R20 to R22: the end of a closure re-read: a match makes the outcome write due, a difference tears the closure, a
failure latches the outcome. -/
def State.closureRereadEnded (s : State) (n : AxisId) (answer : Except Failure IssueRegion) : State :=
  match (s.axis n).route.closure with
  | some ⟨e, .reread⟩ =>
    match answer with
    | .error _ => s.fillLatch n e
    | .ok r =>
      if r = e.record then s.modRoute n fun u => { u with closure := some ⟨e, .write⟩ } else s.tornClosure n e
  | some ⟨_, .write⟩ => s
  | none => s

/-- R38: the axis ATTN bit for an outcome written into its slot: every outcome that is no success, and a success whose
record has NOTIFY_CLOSE. -/
def ClosureEntry.attends (e : ClosureEntry) : Bool := !e.outcome.success || e.record.notifyClose

/-- R20, R22, R38, R40: the end of an outcome write: closure work over, page due and attention, or the outcome
latched. -/
def State.outcomeWriteEnded (s : State) (n : AxisId) (answer : Except Failure Unit) : State :=
  match (s.axis n).route.closure with
  | some ⟨e, .write⟩ =>
    match answer with
    | .error _ => s.fillLatch n e
    | .ok () =>
      let s := s.modRoute n fun r => { r with closure := none }
      let s := (s.modPage n fun g => g.takeTag e.record).pageDue n
      if e.attends then s.raise (axisAttnBit n) else s
  | some ⟨_, .reread⟩ => s
  | none => s

/-- R75: RELEASE_AXIS completes: held cause NONE, later-fault set empty, DRY clear, HELD to IDLE, result DONE. The
notices of the position unit that wait are taken before, while the axis is HELD: they have joined the later-fault set and set
the ATTN bit (R68, assumption 9). -/
def State.completeRelease (s : State) (n : AxisId) : State :=
  let waits := !(s.axis n).seq.handed.isEmpty
  let s := s.modSeq n fun q => { q with heldCause := none, later := 0, handed := [] }
  let s := s.modRoute n fun r => { r with dry := false, patrolStart := none }
  let s := s.finish .done 0 0
  (if waits then s.raise (axisAttnBit n) else s).enterIdle n

/-- R76: a delivery has emptied the latch: the release completes with XSTOP_N high, and is refused with it low. -/
def State.deliveryEmptied (s : State) (n : AxisId) : State :=
  let s := (s.modSeq n fun q => { q with latch := none, delivery := none }).pageDue n
  if s.xstopHigh then s.completeRelease n else s.finish .refusedState 0 0

/-- R76, R151: a delivery failed: the latch is kept, ACCESS_CLOSE joins the later-fault set, the release ends
REFUSED_ACCESS with the detail of the failure. -/
def State.deliveryFailed (s : State) (n : AxisId) (f : Failure) : State :=
  let s := s.modSeq n fun q => { q with delivery := none }
  (s.joinLater n .accessClose).finishAccess f

/-- R151: the end of a delivery re-read. -/
def State.deliveryRereadEnded (s : State) (n : AxisId) (answer : Except Failure IssueRegion) : State :=
  match (s.axis n).seq.delivery, (s.axis n).seq.latch with
  | some .reread, some e =>
    match answer with
    | .error f => s.deliveryFailed n f
    | .ok r =>
      if r = e.record then s.modSeq n fun q => { q with delivery := some .write }
      else
        (s.modPage n fun g =>
          { g with tornStamp := e.record.stamp, tornCode := e.outcome.code, tornSeen := true }).deliveryEmptied n
  | some .reread, none => s
  | some .write, _ => s
  | none, _ => s

/-- R151, R152: the end of a delivery's outcome write. -/
def State.deliveryWriteEnded (s : State) (n : AxisId) (answer : Except Failure Unit) : State :=
  match (s.axis n).seq.delivery, (s.axis n).seq.latch with
  | some .write, some _ =>
    match answer with
    | .error f => s.deliveryFailed n f
    | .ok () => s.deliveryEmptied n
  | some .write, none => s
  | some .reread, _ => s
  | none, _ => s

/-- R144: the failure of a route unit's access, to the handler of its kind. -/
def State.routeFailed (s : State) (n : AxisId) (k : RouteAccess) (f : Failure) : State :=
  match k with
  | .fetch => s.fetchEnded n (.error f)
  | .verification => s.verificationEnded n (.error f)
  | .closureReread => s.closureRereadEnded n (.error f)
  | .outcomeWrite => s.outcomeWriteEnded n (.error f)
  | .deliveryReread => s.deliveryRereadEnded n (.error f)
  | .deliveryWrite => s.deliveryWriteEnded n (.error f)

end Sys2Proof.Machine
end

