-- ==== Sys2Proof/Machine/Registers.lean ====
section
/-! DEFINITION. The meanings of the register writes other than COMMAND: NOTICE, ATTN, ATTN_MASK, SETUP_ADDR and the
writes without effect (R12, R185, R186, R188, R190, R197). -/

namespace Sys2Proof.Machine

/-- R12: the route unit of axis n takes a notice: the latch is set, DRY cleared with the patrol timer stopped, and the
fetch conditions decide. A DORMANT axis takes none. -/
def State.noticeAxis (s : State) (n : AxisId) : State :=
  if (s.axis n).seq.state = .dormant then s
  else
    (s.modRoute n fun r =>
      { r with noticeLatch := true, dry := false, patrolStart := if r.dry then none else r.patrolStart }).conclude n

/-- R12: the bit of axis n of a NOTICE value. -/
def State.noticeBit (value : Word) (s : State) (n : AxisId) : State :=
  if value.getLsbD n.toNat then s.noticeAxis n else s

/-- NOTICE (R12, R197). -/
def execNotice (value : Word) (s : State) : Host.Outcome State Fault Refusal :=
  .next (s.unlessReset (State.eachAxis (State.noticeBit value)))

/-- ATTN (R185): each bit written as 1 is cleared. -/
def execAttn (value : Word) (s : State) : Host.Outcome State Fault Refusal :=
  .next (s.unlessReset fun s => { s with attn := s.attn &&& ~~~(value.extractLsb' 0 6) })

/-- ATTN_MASK (R186): the six mask bits are replaced. -/
def execAttnMask (value : Word) (s : State) : Host.Outcome State Fault Refusal :=
  .next (s.unlessReset fun s => { s with attnMask := value.extractLsb' 0 6 })

/-- SETUP_ADDR (R190). -/
def execSetupAddr (value : Word) (s : State) : Host.Outcome State Fault Refusal :=
  .next (s.unlessReset fun s => { s with cmd.setupAddr := value })

/-- REGISTER_WRITE_NO_EFFECT (R188): a write to an offset without a writable register, a write of fewer than four bytes,
and every write while RESET_N is low. A write that a register takes is another row (`Instr.ofWrite`; assumption 13). -/
def execRegisterWriteNoEffect (offset : BitVec 6) (lanes : BitVec 4) (_value : Word) (s : State) :
    Host.Outcome State Fault Refusal :=
  if writeIsTaken offset lanes && !s.resetLow then .refused .notACommand else .next s

end Sys2Proof.Machine
end

