-- ==== Sys2Proof/Config.lean ====
section
/-! DEFINITION. The free values of the SKH-4100: constants without a body, so that nothing can be proved about
what they are. Each is applied to the counter `State.freeCount`, which the step that uses it advances. -/

namespace Sys2Proof.Config

/-- The direction (true: FORWARD) of a span measurement that starts at an index pulse before which no count has
been taken. R111 names the direction of the last count taken before the pulse and does not say what stands when
there is none. DESIGN CHOICE (free value), assumption 6. -/
opaque spanDirection : Nat → Bool

/-- The value stored as the last index span when the measured span does not fit its range 0 … 2^32−1 (R112,
table of 5.1). The manual does not state it. DESIGN CHOICE (free value), assumption 7. -/
opaque spanOverflow : Nat → BitVec 32

/-- Whether the sequencer takes an index pulse before the SLIPPED notice that the same pulse causes (R105, R111,
R112, R118). The manual does not order the two. DESIGN CHOICE (free value), assumption 8. -/
opaque pulseBeforeSlip : Nat → Bool

end Sys2Proof.Config
end

