-- ==== Sys2Proof/Machine/Setup.lean ====
section
/-! DEFINITION. The setup block (chapter 8): validation of the shadow, commit, failed load, and the stop-line check at
the end of LOADING. -/

namespace Sys2Proof.Machine

/-! ### Validation (R160 to R166) -/

/-- A range of part-side addresses by its first byte and its length, computed exactly. -/
structure AddrRange where
  first  : Nat
  length : Nat
  deriving DecidableEq, Repr

/-- Two ranges share an address. -/
def AddrRange.shares (a b : AddrRange) : Bool :=
  decide (0 < a.length ∧ 0 < b.length ∧ a.first < b.first + b.length ∧ b.first < a.first + a.length)

/-- The rights code of entry i (R162). -/
def entryRights (ws : List Word) (i : Nat) : Byte := blockByte ws (apertureOffset i + 12)

/-- The base of entry i. -/
def entryBase (ws : List Word) (i : Nat) : Nat := (blockWord ws (apertureOffset i)).toNat

/-- The limit of entry i. -/
def entryLimit (ws : List Word) (i : Nat) : Nat := (blockWord ws (apertureOffset i + 4)).toNat

/-- The offset field of entry i. -/
def entryShift (ws : List Word) (i : Nat) : Nat := (blockWord ws (apertureOffset i + 8)).toNat

/-- The open-at-load byte of entry i. -/
def entryOpenByte (ws : List Word) (i : Nat) : Byte := blockByte ws (apertureOffset i + 13)

/-- Entry i is in use: READ_ONLY or READ_WRITE (R138). -/
def entryInUse (ws : List Word) (i : Nat) : Bool := entryRights ws i == 1 || entryRights ws i == 2

/-- Two entries in use share a part-side address. -/
def entriesCollide (ws : List Word) (i j : Nat) : Bool :=
  entryInUse ws i && entryInUse ws j
    && decide (entryBase ws i ≤ entryLimit ws i ∧ entryBase ws j ≤ entryLimit ws j
      ∧ entryBase ws i ≤ entryLimit ws j ∧ entryBase ws j ≤ entryLimit ws i)

/-- R162: entry i fails step 4. -/
def entryFails (ws : List Word) (i : Nat) : Bool :=
  decide (2 < (entryRights ws i).toNat)
    || (entryInUse ws i
        && (decide (entryBase ws i % 32 ≠ 0)
            || decide (entryLimit ws i < entryBase ws i)
            || decide ((entryLimit ws i + 1) % 32 ≠ 0)
            || decide (entryShift ws i % 32 ≠ 0)
            || decide (4294967295 < entryLimit ws i + entryShift ws i)
            || decide (1 < (entryOpenByte ws i).toNat)
            || (List.range i).any fun j => entriesCollide ws i j))

/-- R163: a profile fails step 5. -/
def profileFails (p : Profile) : Bool :=
  decide (2147483647 < p.slow) || decide (p.slow < p.cut) || decide (2147483647 < p.window) || decide (3 < p.retries)

/-- R164: the section of axis n fails the first check of step 6. -/
def sectionFails (ws : List Word) (n : AxisId) : Bool :=
  let o := sectionOffset n.toNat
  let kind := blockByte ws o
  let edge := blockByte ws (o + 0x01)
  let settle := (blockByte ws (o + 0x05)).toNat
  let stall := (blockHalf ws (o + 0x08)).toNat
  let pause := (blockHalf ws (o + 0x0A)).toNat
  let modulus := (blockWord ws (o + 0x10)).toNat
  let lower := (blockWord ws (o + 0x14)).toInt
  let upper := (blockWord ws (o + 0x18)).toInt
  decide (1 < kind.toNat)
    || !(edge == 1 || edge == 2 || edge == 4)
    || decide (1 < (blockByte ws (o + 0x02)).toNat)
    || decide (2 < (blockByte ws (o + 0x03)).toNat)
    || decide (1 < (blockByte ws (o + 0x04)).toNat)
    || decide (settle < 1)
    || decide (stall < 10 ∨ 10000 < stall)
    || decide (1000 < pause)
    || (kind == 1 && decide (modulus < 16 ∨ 1073741824 < modulus))
    || (kind == 0 && decide (upper < lower))

/-- The route of axis n of the shadow. -/
def shadowRoute (ws : List Word) (n : AxisId) : AddrRange :=
  ⟨(parseSection ws n).routeBase.toNat, 32 * (parseSection ws n).length⟩

/-- The status page of axis n of the shadow. -/
def shadowPage (ws : List Word) (n : AxisId) : AddrRange := ⟨(parseSection ws n).pageAddr.toNat, 64⟩

/-- R165, R166: a range lies wholly within one entry that is in use, READ_WRITE and open at load. -/
def inOpenWindow (ws : List Word) (r : AddrRange) : Bool :=
  (List.range 6).any fun i =>
    entryRights ws i == 2 && entryOpenByte ws i == 1
      && decide (entryBase ws i ≤ r.first ∧ r.first + r.length ≤ entryLimit ws i + 1)

/-- A range shares an address with the route or page of another enabled axis. -/
def meetsOtherAxis (ws : List Word) (n : AxisId) (r : AddrRange) : Bool :=
  AxisId.list.any fun m => m != n && axisEnabled ws m && (r.shares (shadowRoute ws m) || r.shares (shadowPage ws m))

/-- R165: the route of axis n fails. -/
def routeFails (ws : List Word) (n : AxisId) : Bool :=
  let r := shadowRoute ws n
  let l := (parseSection ws n).length
  decide (r.first % 32 ≠ 0)
    || decide (l < 4 ∨ 64 < l)
    || decide (4294967296 < r.first + r.length)
    || !inOpenWindow ws r
    || r.shares (shadowPage ws n)
    || meetsOtherAxis ws n r

/-- R166: the status page of axis n fails. -/
def pageFails (ws : List Word) (n : AxisId) : Bool :=
  let r := shadowPage ws n
  decide (r.first % 64 ≠ 0) || decide (4294967296 < r.first + r.length) || !inOpenWindow ws r || meetsOtherAxis ws n r

/-- R160 step 6 for axis n: section, route, page. -/
def axisCheck (ws : List Word) (n : AxisId) : Option (SetupDetail × Byte) :=
  if !axisEnabled ws n then none
  else if sectionFails ws n then some (.badAxis, n.toIndex)
  else if routeFails ws n then some (.badRoute, n.toIndex)
  else if pageFails ws n then some (.badStatusPage, n.toIndex)
  else none

/-- R160: the checks of the shadow in order; the first that fails, with its detail and index. -/
def validateShadow (ws : List Word) : Option (SetupDetail × Byte) :=
  if blockByte ws 0x000 ≠ 1 then some (.badFormat, 0)
  else if 10000 < (blockHalf ws 0x004).toNat then some (.badFormat, 1)
  else if 60000 < (blockHalf ws 0x006).toNat then some (.badFormat, 2)
  else if !(AxisId.list.any fun n => axisEnabled ws n) then some (.noAxis, 0)
  else
    match EntryId.list.find? (fun i => entryFails ws i.toNat) with
    | some i => some (.badAperture, BitVec.ofNat 8 i.toNat)
    | none =>
      match ProfileId.list.find? (fun i => profileFails (parseProfile ws i.toNat)) with
      | some i => some (.badProfile, BitVec.ofNat 8 i.toNat)
      | none => AxisId.list.findSome? (axisCheck ws)

/-! ### The end of a load (R78, R110, R123, R137, R167 to R169) -/

/-- R78: at the end of LOADING with XSTOP_N low, an IDLE axis goes HELD with LINE_STOP and a HELD axis adds LINE_STOP to
its later-fault set. -/
def State.stopCheck (s : State) (n : AxisId) : State :=
  if !s.xstopHigh && ((s.axis n).seq.state == .idle || (s.axis n).seq.state == .held) then
    s.takeCause n .lineStop .lineStopped
  else s

/-- R167: the load ends FAILED_SETUP and the controller returns to its origin state. -/
def State.failLoad (s : State) (d : SetupDetail) (index : Byte) : State :=
  let back : ControllerState :=
    match s.cmd.origin with
    | some .loaded => .loaded
    | some .blank => .blank
    | none => .blank
  let s := { s with cmd.controller := back, cmd.origin := none, cmd.loadAddress := none, shadow := none }
  (s.finish .failedSetup d.code index).eachAxis State.stopCheck

/-- R123: the unit retains its axis under the new section. -/
def PositionUnit.retains (p : PositionUnit) (c : Section) : Bool :=
  p.counting == some ⟨c.edge, c.kind⟩ && !p.lossMark

/-- R106, R111, R112, R123: a position unit at a commit that enables its axis. -/
def PositionUnit.commit (p : PositionUnit) (c : Section) (now : Word) : PositionUnit :=
  let kept := p.retains c
  let last := if kept then p.lastChange else now
  { counting := some ⟨c.edge, c.kind⟩
    raw := if kept then p.raw else 0
    shift := 0
    lastChange := last
    standstill := timeReached last c.settle now
    params := some ⟨c.settle, c.stall, c.indexCheck, c.indexSpan, c.tolerance⟩
    stallStart := none
    pairs := if p.counting.isSome then p.pairs else ⟨false, false, false⟩
    lossMark := false
    span := none
    lastSpan := 0
    referenced := kept && p.referenced
    refLevel := p.refLevel
    lastCount := p.lastCount }

/-- R123: a position unit at a commit that disables its axis. -/
def PositionUnit.disable (p : PositionUnit) : PositionUnit :=
  { p with
    counting := none, raw := 0, shift := 0, standstill := false, params := none, stallStart := none,
    pairs := ⟨false, false, false⟩, lossMark := false, span := none, lastSpan := 0, referenced := false }

/-- R127: the direction line goes inactive as STEER mode ends: at once, or after the hold time where that is running
or run has just fallen. -/
def DriveStage.dropDirection (v : DriveStage) : DriveStage :=
  match v.mode with
  | .none => v
  | .split => { v with runFwd := false, runRev := v.dirDrop && v.runRev, rapid := false }
  | .steer =>
    if v.runFwd || v.dirHold then { v with runFwd := false, rapid := false, dirHold := true, dirDrop := v.runRev }
    else { v with runRev := false, rapid := false }

/-- R137: a drive stage at a commit that enables its axis; `standing` is the standstill condition the load gives. -/
def DriveStage.commit (v : DriveStage) (c : Section) (standing : Bool) (now : Word) : DriveStage :=
  let v := if c.output = .split then { v.dropDirection with dirSetup := false } else v
  let v := { v with mode := c.output, pause := c.pause }
  if standing then
    match v.restStart with
    | some t => { v with revClear := timeReached t c.pause now }
    | none => { v with restStart := some now, revClear := c.pause == 0 }
  else { v with restStart := none }

/-- R137, R124: a drive stage at a commit that disables its axis. Assumption 16. -/
def DriveStage.disable (v : DriveStage) : DriveStage :=
  { v.dropDirection with mode := .none, pause := 0, restStart := none, dirSetup := false }

/-- R183: the reporter's part for an axis at a commit. -/
def PageUnit.commit (g : PageUnit) (enabled : Bool) : PageUnit :=
  { serial := g.serial, due := enabled, stale := false, lastTag := 0, tornStamp := 0, tornCode := 0,
    tornSeen := false }

/-- R26, R79, R123, R137, R183: the blocks of an axis after the commit. -/
def AxisUnit.commit (u : AxisUnit) (sec : Option Section) (now : Word) : AxisUnit :=
  match sec with
  | some c =>
    let p := u.pos.commit c now
    { route := { RouteUnit.reset with expected := c.s0 }
      seq := { Sequencer.reset with state := .idle, refHanded := u.pos.refLevel }
      pos := p
      drive := u.drive.commit c p.standstill now
      page := u.page.commit true }
  | none =>
    { route := .reset, seq := .reset, pos := u.pos.disable, drive := u.drive.disable, page := u.page.commit false }

/-- R139: an entry in use is OPEN after the commit where its open-at-load flag is set. -/
def Aperture.opens (a : Aperture) : Bool := a.rights != .none && a.openAtLoad

/-- R168, R169, R110: the commit. After the stop-line check, each axis that the load has made IDLE with its encoder
condition LOST is handed the repeated ENCODER_LOST notice, which it takes once its first page has been composed. -/
def State.commitLoad (s : State) (ws : List Word) : State :=
  let c := parseSetup ws
  let now := s.timeBase
  let s :=
    { s with
      setup := some c
      shadow := none
      apertureOpen := ⟨c.apertures.e0.opens, c.apertures.e1.opens, c.apertures.e2.opens, c.apertures.e3.opens,
        c.apertures.e4.opens, c.apertures.e5.opens⟩
      axes := ⟨s.axes.a0.commit c.sections.a0 now, s.axes.a1.commit c.sections.a1 now,
        s.axes.a2.commit c.sections.a2 now, s.axes.a3.commit c.sections.a3 now⟩
      reporter.timerStart := if c.report = 0 then none else some now
      cmd.controller := .loaded
      cmd.origin := none
      cmd.loadAddress := none }
  ((s.finish .done 0 0).eachAxis State.stopCheck).eachAxis State.repeatLoss

/-- R147, R160: the end of setup chunk j: the data go to the shadow, then the next chunk is requested, or the shadow is
validated and committed, or the load fails. -/
def State.chunkEnded (s : State) (j : Nat) (answer : Except Failure SetupChunk) : State :=
  match s.shadow with
  | none => s
  | some cs =>
    match answer with
    | .error _ => s.failLoad .busError (BitVec.ofNat 8 j)
    | .ok c =>
      let cs := cs ++ [c]
      if j < 15 then { s with shadow := some cs, port.chunk := some (j + 1) }
      else
        match validateShadow (shadowWords cs) with
        | some (d, i) => s.failLoad d i
        | none => s.commitLoad (shadowWords cs)

end Sys2Proof.Machine
end

