-- ==== Sys2Proof/Machine/Port.lean ====
section
/-! DEFINITION. The memory port, the aperture check and the status reporter's page writes (chapters 7 and 9), and the
meanings of the rows that belong to them: ARBITER_GRANT, TRANSFER_TIMEOUT and the ends of the accesses. -/

namespace Sys2Proof.Machine

/-! ### The aperture check (R142) -/

/-- R142: an entry in use holds every byte from `first` on, `len` bytes. -/
def Aperture.holds (a : Aperture) (first len : Nat) : Bool :=
  a.rights != .none && decide (a.base.toNat ≤ first ∧ first + len ≤ a.limit.toNat + 1)

/-- The entry in use that holds every byte of a range; no two entries overlap (R138). -/
def Setup.entryFor (c : Setup) (first len : Nat) : Option EntryId :=
  EntryId.list.find? fun i => (c.apertures.get i).holds first len

/-- R142: the three tests in order. A pass gives the entry used; a failure carries the reason and the entry that holds
the first byte, if any. After a reset there are no entries (R139). -/
def State.checkAperture (s : State) (addr : Word) (len : Nat) (write : Bool) : Except Failure EntryId :=
  match s.setup with
  | none => .error ⟨.outside, none⟩
  | some c =>
    match c.entryFor addr.toNat len with
    | none => .error ⟨.outside, c.entryFor addr.toNat 1⟩
    | some i =>
      if !s.apertureOpen.get i then .error ⟨.closed, some i⟩
      else if write && (c.apertures.get i).rights != .readWrite then .error ⟨.readOnly, some i⟩
      else .ok i

/-- R142: the offset of an entry of the setup in force. -/
def State.entryOffset (s : State) (i : EntryId) : Word :=
  match s.setup with
  | some c => (c.apertures.get i).offset
  | none => 0

/-! ### Pages (R175, R178, R204) -/

/-- R176, R204: the flags of the page. -/
def AxisUnit.pageFlags (u : AxisUnit) : BitVec 16 :=
  (0 : BitVec 12) ++ BitVec.ofBool u.page.tornSeen ++ BitVec.ofBool u.seq.latch.isSome ++ BitVec.ofBool u.route.dry
    ++ BitVec.ofBool u.seq.executing.isSome

/-- R175: the stamp of the executing record, or 0. -/
def Sequencer.executingStamp (q : Sequencer) : Stamp :=
  match q.executing with
  | some x => x.record.stamp
  | none => 0

/-- R175, R204: the sixteen words of a page in ascending address order, composed at a time base reading. -/
def AxisUnit.pageWords (u : AxisUnit) (now : Word) : List Word :=
  [ u.page.serial,
    wordOfBytes u.seq.state.code (if u.pos.referenced then 1 else 0) (heldCauseCode u.seq.heldCause)
      (BitVec.ofNat 8 u.route.staging.length),
    u.pos.reported,
    u.pos.raw,
    u.pos.shift,
    wordOfHalves u.route.expected u.seq.executingStamp,
    wordOfHalves u.pageFlags u.seq.later,
    u.pos.lastSpan,
    now,
    u.page.lastTag,
    wordOfHalves u.page.tornStamp ((0 : Byte) ++ u.page.tornCode),
    0, 0, 0, 0,
    u.page.serial ]

/-- R178: some page-due flag is set. -/
def State.anyPageDue (s : State) : Bool := AxisId.list.any fun n => (s.axis n).page.due

/-- R178: the first axis with its page-due flag set after the axis last written, in the ring. -/
def State.nextPage (s : State) : Option AxisId :=
  let a := s.reporter.lastWritten
  [a.next, a.next.next, a.next.next.next, a].find? fun n => (s.axis n).page.due

/-- R178: the state in which a page of axis n has been composed: last written, flag clear, serial stepped. -/
def State.composePage (s : State) (n : AxisId) : State :=
  { s.modPage n (fun g => { g with due := false, serial := g.serial + 1 }) with reporter.lastWritten := n }

/-- R182: a SNAPSHOT of axis n is pending. -/
def State.snapshotPending (s : State) (n : AxisId) : Bool := s.pendingFor 0x13 n

/-- R180: a failed page write: stale bit, axis ATTN bit, ACCESS_STATUS; a SNAPSHOT it answers ends REFUSED_ACCESS. -/
def State.pageFailed (s : State) (n : AxisId) (answers : Bool) (f : Failure) : State :=
  let s := (s.modPage n fun g => { g with stale := true }).raise (axisAttnBit n)
  let s := if answers && s.snapshotPending n then s.finishAccess f else s
  s.takeCause n .accessStatus .accessFailed

/-- R179: a page write that ended with success: stale bit clear; a SNAPSHOT it answers completes DONE. -/
def State.pageWritten (s : State) (n : AxisId) (answers : Bool) : State :=
  let s := s.modPage n fun g => { g with stale := false }
  if answers && s.snapshotPending n then s.finish .done 0 0 else s

/-! ### The arbiter (R141) -/

/-- R141: the requesters in the order in which they follow the pointer in the ring. -/
def Requester.after : Requester → List Requester
  | .loader => [.route .a0, .route .a1, .route .a2, .route .a3, .reporter, .loader]
  | .route .a0 => [.route .a1, .route .a2, .route .a3, .reporter, .loader, .route .a0]
  | .route .a1 => [.route .a2, .route .a3, .reporter, .loader, .route .a0, .route .a1]
  | .route .a2 => [.route .a3, .reporter, .loader, .route .a0, .route .a1, .route .a2]
  | .route .a3 => [.reporter, .loader, .route .a0, .route .a1, .route .a2, .route .a3]
  | .reporter => [.loader, .route .a0, .route .a1, .route .a2, .route .a3, .reporter]

/-- R140, R178: a requester has a request waiting. The reporter keeps one waiting while a page is due and it has no
access outstanding. -/
def State.hasRequest (s : State) : Requester → Bool
  | .loader => s.port.chunk.isSome
  | .route n => (s.port.waiting.get n).isSome
  | .reporter => s.anyPageDue && s.reporter.writing.isNone

/-- R141: the requester that a free port grants next. -/
def State.nextRequester (s : State) : Option Requester := s.port.pointer.after.find? s.hasRequest

/-- The transfers of a read of `k` words in ascending address order (R140). -/
def readTransfers (bus : Word) (k : Nat) : List Transfer :=
  (List.range k).map fun i => ⟨bus + BitVec.ofNat 32 (4 * i), none⟩

/-- The transfers of a write: each word at its byte offset, in the order given (R140). -/
def writeTransfers (bus : Word) (data : List (Nat × Word)) : List Transfer :=
  data.map fun d => ⟨bus + BitVec.ofNat 32 d.1, some d.2⟩

/-- R140: a write, or a read, by kind of access. -/
def RouteAccess.isWrite : RouteAccess → Bool
  | .outcomeWrite | .deliveryWrite => true
  | .fetch | .verification | .closureReread | .deliveryReread => false

/-- R140: how many bytes an access moves. -/
def RouteAccess.bytes (k : RouteAccess) : Nat := if k.isWrite then 12 else 20

/-- R147: the grant of a setup chunk, which is not checked. -/
def State.grantChunk (s : State) (j : Nat) : State :=
  let bus := s.cmd.loadAddress.getD 0 + BitVec.ofNat 32 (32 * j)
  { s with port.chunk := none, port.pointer := .loader, port.access := some ⟨.chunk j, none, readTransfers bus 8, false⟩ }

/-- R142: the grant of a route unit's access: driven at its bus addresses, or refused in this event. -/
def State.grantRoute (s : State) (n : AxisId) (q : RouteRequest) : State :=
  let s := { s with port.waiting := s.port.waiting.set n none, port.pointer := .route n }
  match s.checkAperture q.addr q.kind.bytes q.kind.isWrite with
  | .error f => (s.routeFailed n q.kind f).conclude n
  | .ok i =>
    let bus := q.addr + s.entryOffset i
    let ts := if q.kind.isWrite then writeTransfers bus q.data else readTransfers bus 5
    { s with port.access := some ⟨.route n q.kind, some i, ts, false⟩ }

/-- The page words with their byte offsets in ascending order. -/
def pageData (ws : List Word) : List (Nat × Word) := (List.range 16).map fun i => (4 * i, ws.getD i 0)

/-- R110: the page for its entry to IDLE has been composed, and the sequencer takes the notices that waited for that. With
none waiting the event is no event of the axis. Assumption 9. -/
def State.afterPage (s : State) (n : AxisId) : State :=
  if (s.axis n).seq.handed = [] then s else (s.takeHanded n).conclude n

/-- R178, R182: the grant of the status reporter's request for axis n: the page is composed and its write driven, or
refused in this event; a repeated ENCODER_LOST notice that waited for the composition is taken after it (R110). -/
def State.grantPage (s : State) (n : AxisId) : State :=
  let answers := s.snapshotPending n
  let s := { s.composePage n with port.pointer := .reporter }
  match s.sectionOf n with
  | none => s
  | some c =>
    match s.checkAperture c.pageAddr 64 true with
    | .error f => ((s.takeHanded n).pageFailed n answers f).conclude n
    | .ok i =>
      let bus := c.pageAddr + s.entryOffset i
      { s with
        port.access := some ⟨.page n, some i, writeTransfers bus (pageData ((s.axis n).pageWords s.timeBase)), false⟩
        reporter.writing := some ⟨n, answers⟩ }.afterPage n

/-- ARBITER_GRANT (R141, R142, R147, R178): the free port grants the first waiting requester after the pointer; with the
port busy or no request waiting there is no grant (assumption 2). -/
def execArbiterGrant (s : State) : Host.Outcome State Fault Refusal :=
  match s.port.access with
  | some _ => .next s
  | none =>
    match s.nextRequester with
    | none => .next s
    | some .loader =>
      match s.port.chunk with
      | some j => .next (s.grantChunk j)
      | none => .next s
    | some (.route n) =>
      match s.port.waiting.get n with
      | some q => .next (s.grantRoute n q)
      | none => .next s
    | some .reporter =>
      match s.nextPage with
      | some n => .next (s.grantPage n)
      | none => .next s

/-! ### The end of an access (R143, R144, R148) -/

/-- The access in progress has ended and the port is free. -/
def State.freePort (s : State) : State := { s with port.access := none }

/-- The reporter has no access outstanding. -/
def State.pageDone (s : State) : State := { s with reporter.writing := none }

/-- The page write outstanding was composed after the pending SNAPSHOT of axis n was taken (R182). -/
def State.writingAnswers (s : State) (n : AxisId) : Bool :=
  match s.reporter.writing with
  | some w => w.axis == n && w.answersSnapshot
  | none => false

/-- R143, R144: the access in progress ends with a bus error and its requester acts on the failure, unless its answer
is dropped (R148). -/
def State.busFailed (s : State) (a : Access) : State :=
  let s := s.freePort
  if a.dropped then s
  else
    let f : Failure := ⟨.busError, a.entry⟩
    match a.kind with
    | .chunk j => s.chunkEnded j (.error f)
    | .route n k => (s.routeFailed n k f).conclude n
    | .page n => (s.pageDone.pageFailed n (s.writingAnswers n) f).conclude n

/-- TRANSFER_TIMEOUT (R143): a transfer without an answer for 40 µs is taken as a bus error. -/
def execTransferTimeout (s : State) : Host.Outcome State Fault Refusal :=
  match s.port.access with
  | none => .next s
  | some a => .next (s.busFailed a)

/-- The end of a 20-byte read of the route unit of axis n, of the kind given: the handler takes the data, a bus error
goes the way of R143. An end that names another access than the one in progress is no event (assumption 2). -/
def State.endRead (s : State) (n : AxisId) (k : RouteAccess) (answer : ReadAnswer)
    (taken : State → AxisId → Except Failure IssueRegion → State) : State :=
  match s.port.access with
  | none => s
  | some a =>
    if a.kind = .route n k then
      match answer with
      | .busError => s.busFailed a
      | .data r => if a.dropped then s.freePort else (taken s.freePort n (.ok r)).conclude n
    else s

/-- The end of a 12-byte write of the route unit of axis n, of the kind given. -/
def State.endWrite (s : State) (n : AxisId) (k : RouteAccess) (answer : WriteAnswer)
    (taken : State → AxisId → Except Failure Unit → State) : State :=
  match s.port.access with
  | none => s
  | some a =>
    if a.kind = .route n k then
      match answer with
      | .busError => s.busFailed a
      | .acknowledged => if a.dropped then s.freePort else (taken s.freePort n (.ok ())).conclude n
    else s

/-- FETCH_END (R9, R10). -/
def execFetchEnd (n : AxisId) (answer : ReadAnswer) (s : State) : Host.Outcome State Fault Refusal :=
  .next (s.endRead n .fetch answer State.fetchEnded)

/-- VERIFICATION_REREAD_END (R16 to R18). -/
def execVerificationRereadEnd (n : AxisId) (answer : ReadAnswer) (s : State) : Host.Outcome State Fault Refusal :=
  .next (s.endRead n .verification answer State.verificationEnded)

/-- CLOSURE_REREAD_END (R20 to R22). -/
def execClosureRereadEnd (n : AxisId) (answer : ReadAnswer) (s : State) : Host.Outcome State Fault Refusal :=
  .next (s.endRead n .closureReread answer State.closureRereadEnded)

/-- OUTCOME_WRITE_END (R20, R22, R38). -/
def execOutcomeWriteEnd (n : AxisId) (answer : WriteAnswer) (s : State) : Host.Outcome State Fault Refusal :=
  .next (s.endWrite n .outcomeWrite answer State.outcomeWriteEnded)

/-- DELIVERY_REREAD_END (R151). -/
def execDeliveryRereadEnd (n : AxisId) (answer : ReadAnswer) (s : State) : Host.Outcome State Fault Refusal :=
  .next (s.endRead n .deliveryReread answer State.deliveryRereadEnded)

/-- DELIVERY_WRITE_END (R151, R152). -/
def execDeliveryWriteEnd (n : AxisId) (answer : WriteAnswer) (s : State) : Host.Outcome State Fault Refusal :=
  .next (s.endWrite n .deliveryWrite answer State.deliveryWriteEnded)

/-- PAGE_WRITE_END (R179, R180). -/
def execPageWriteEnd (answer : WriteAnswer) (s : State) : Host.Outcome State Fault Refusal :=
  match s.port.access with
  | none => .next s
  | some a =>
    match a.kind with
    | .page n =>
      match answer with
      | .busError => .next (s.busFailed a)
      | .acknowledged =>
        if a.dropped then .next s.freePort
        else .next ((s.freePort.pageDone.pageWritten n (s.writingAnswers n)).conclude n)
    | .chunk _ => .next s
    | .route _ _ => .next s

/-- SETUP_CHUNK_END (R147, R160, R167, R168). -/
def execSetupChunkEnd (answer : ChunkAnswer) (s : State) : Host.Outcome State Fault Refusal :=
  match s.port.access with
  | none => .next s
  | some a =>
    match a.kind with
    | .chunk j =>
      match answer with
      | .busError => .next (s.busFailed a)
      | .data c =>
        if a.dropped then .next s.freePort
        else .next (s.freePort.chunkEnded j (.ok c))
    | .route _ _ => .next s
    | .page _ => .next s

end Sys2Proof.Machine
end

