-- ==== Sys2Proof/Machine/Commands.lean ====
section
/-! DEFINITION. The COMMAND writes (chapter 10, R191 to R196): acceptance, and the meaning of each of the eleven
command rows. -/

namespace Sys2Proof.Machine

/-- R191: a write to COMMAND is dropped while a result is PENDING, and sets COMMAND_OVERRUN; else it is accepted and the
command tested and taken by `take` in the same event. RESET_PART does not pass here (R196). -/
def State.accept (s : State) (code : Byte) (take : State → State) : State :=
  if s.cmd.result = .pending then { s with cmd.overrun := true }
  else
    take
      { s with
        cmd.overrun := false
        cmd.lastCode := code
        cmd.detail := 0
        cmd.detailIndex := 0 }

/-- R192: a refusal is final in its event and changes nothing but the command record and ATTN bit 4. -/
def State.refuse (s : State) (r : Result) : State := s.finish r 0 0

/-- R191: the command stays PENDING and the command unit keeps its index. -/
def State.pend (s : State) (index : Byte) : State := { s with cmd.result := .pending, cmd.pendingIndex := some index }

/-- BLANK or LOADING: the states in which the axis and aperture commands are refused. -/
def State.noSetupState (s : State) : Bool := s.cmd.controller == .blank || s.cmd.controller == .loading

/-- R192, R205: the commands that name an axis test the index first. -/
def State.withAxis (s : State) (index : Byte) (take : State → AxisId → State) : State :=
  match AxisId.ofIndex index with
  | none => s.refuse .refusedArgument
  | some n => take s n

/-! ### LOAD_SETUP (R158) -/

/-- R158: the load is taken from the origin state given. -/
def State.beginLoad (s : State) (index : Byte) (origin : Origin) : State :=
  if s.latchMask ≠ 0 then s.refuse .refusedLatched
  else if s.cmd.setupAddr.toNat % 32 ≠ 0 then s.refuse .refusedArgument
  else
    { s.pend index with
      cmd.controller := .loading
      cmd.origin := some origin
      cmd.loadAddress := some s.cmd.setupAddr
      shadow := some []
      port.chunk := some 0 }

/-- R158: LOAD_SETUP, accepted: the tests in order. -/
def State.takeLoadSetup (s : State) (index : Byte) : State :=
  match s.cmd.controller with
  | .blank => s.beginLoad index .blank
  | .loaded => s.beginLoad index .loaded
  | .loading => s.refuse .refusedState
  | .running => s.refuse .refusedState
  | .halting => s.refuse .refusedState

/-- LOAD_SETUP (R158). -/
def execLoadSetup (index : Byte) (_argument : BitVec 16) (s : State) : Host.Outcome State Fault Refusal :=
  .next (s.unlessReset fun s => s.accept 0x01 fun s => s.takeLoadSetup index)

/-! ### START (R170) -/

/-- R134, R170: with XSTOP_N low, START finds the assertion notice of an axis that is still IDLE taken, which sends it HELD
with LINE_STOP. Assumption 33. -/
def State.startCheck (s : State) (n : AxisId) : State :=
  if !s.xstopHigh && (s.axis n).seq.state == .idle then
    (s.modSeq n fun q => { q with stopNotices := q.stopNotices - 1 }).takeCause n .lineStop .lineStopped
  else s

/-- R170: START, accepted: RUNNING and DONE in the event, and every axis whose fetch conditions hold starts its fetch. -/
def State.takeStart (s : State) : State :=
  if s.cmd.controller = .loaded then
    ({ s.eachAxis State.startCheck with cmd.controller := .running }.finish .done 0 0).concludeAll
  else s.refuse .refusedState

/-- START (R170). -/
def execStart (_index : Byte) (_argument : BitVec 16) (s : State) : Host.Outcome State Fault Refusal :=
  .next (s.unlessReset fun s => s.accept 0x02 State.takeStart)

/-! ### HALT_ALL (R70, R171) -/

/-- R70: what an axis does when HALT_ALL is taken; every axis that is not DORMANT discards staging. -/
def State.haltAxis (s : State) (n : AxisId) : State :=
  match (s.axis n).seq.state with
  | .dormant => s
  | .idle => s.discardStaging n
  | .rapid => s.enterStopping n .abandoned none
  | .creep => s.enterStopping n .abandoned none
  | .coasting => s.enterStopping n .abandoned none
  | .pausing => s.enterStopping n .abandoned none
  | .seeking => s.enterStopping n .abandoned none
  | .dwelling => ((s.discardStaging n).closeRecord n .abandoned).enterIdle n
  | .awaiting => ((s.discardStaging n).closeRecord n .abandoned).enterIdle n
  | .stopping => s.discardStaging n
  | .held => s.discardStaging n

/-- A value of each axis. -/
def PerAxis.tabulate {α : Type} (f : AxisId → α) : PerAxis α := ⟨f .a0, f .a1, f .a2, f .a3⟩

/-- R172: the set holds all four axes. -/
def allSettled (v : PerAxis Bool) : Bool := v.a0 && v.a1 && v.a2 && v.a3

/-- R172: the halt completes: LOADED, DONE, and the settled set is discarded. -/
def State.completeHalt (s : State) : State :=
  { s with cmd.controller := .loaded, cmd.halt := none }.finish .done 0 0

/-- R171: the settled set is formed after the effects on the axes, and the halt completes in the event if it holds all
four. -/
def State.formSettled (s : State) : State :=
  let v := PerAxis.tabulate s.settledNow
  if allSettled v then s.completeHalt else { s with cmd.halt := some ⟨v, v, .all []⟩ }

/-- R171: HALT_ALL, accepted. -/
def State.takeHaltAll (s : State) (index : Byte) : State :=
  if s.cmd.controller = .running then
    (({ s.pend index with cmd.controller := .halting }.eachAxis State.haltAxis).formSettled).concludeAll
  else s.refuse .refusedState

/-- HALT_ALL (R171). -/
def execHaltAll (index : Byte) (_argument : BitVec 16) (s : State) : Host.Outcome State Fault Refusal :=
  .next (s.unlessReset fun s => s.accept 0x03 fun s => s.takeHaltAll index)

/-! ### ABORT_AXIS (R72, R73) -/

/-- R73: a taken ABORT_AXIS by axis state, its result PENDING until the axis enters HELD, which completes it. -/
def State.abortAxis (s : State) (n : AxisId) : State :=
  match (s.axis n).seq.state with
  | .dormant => s
  | .idle => s.enterHeld n .aborted
  | .held => s.finish .done 0 0
  | .dwelling => (s.closeRecord n .abandoned).enterHeld n .aborted
  | .awaiting => (s.closeRecord n .abandoned).enterHeld n .aborted
  | .rapid => s.enterStopping n .abandoned (some .aborted)
  | .creep => s.enterStopping n .abandoned (some .aborted)
  | .coasting => s.enterStopping n .abandoned (some .aborted)
  | .pausing => s.enterStopping n .abandoned (some .aborted)
  | .seeking => s.enterStopping n .abandoned (some .aborted)
  | .stopping => s

/-- R72: ABORT_AXIS, accepted. -/
def State.takeAbortAxis (s : State) (index : Byte) : State :=
  s.withAxis index fun s n =>
    if s.noSetupState || (s.axis n).seq.state == .dormant then s.refuse .refusedState
    else ((s.pend index).abortAxis n).conclude n

/-- ABORT_AXIS (R72, R73). -/
def execAbortAxis (index : Byte) (_argument : BitVec 16) (s : State) : Host.Outcome State Fault Refusal :=
  .next (s.unlessReset fun s => s.accept 0x10 fun s => s.takeAbortAxis index)

/-! ### RELEASE_AXIS (R74, R75) -/

/-- R74, R151: RELEASE_AXIS, accepted: complete at once with an empty latch, else PENDING with a delivery started. -/
def State.takeReleaseAxis (s : State) (index : Byte) : State :=
  s.withAxis index fun s n =>
    if s.noSetupState || (s.axis n).seq.state != .held || !s.xstopHigh then s.refuse .refusedState
    else
      match (s.axis n).seq.latch with
      | none => (s.completeRelease n).conclude n
      | some _ => ((s.pend index).modSeq n fun q => { q with delivery := some .reread }).conclude n

/-- RELEASE_AXIS (R74 to R76, R151). -/
def execReleaseAxis (index : Byte) (_argument : BitVec 16) (s : State) : Host.Outcome State Fault Refusal :=
  .next (s.unlessReset fun s => s.accept 0x11 fun s => s.takeReleaseAxis index)

/-! ### CLEAR_REFERENCE (R114) -/

/-- R114: CLEAR_REFERENCE, accepted. -/
def State.takeClearReference (s : State) (index : Byte) : State :=
  s.withAxis index fun s n =>
    if s.noSetupState || !((s.axis n).seq.state == .idle || (s.axis n).seq.state == .held) then s.refuse .refusedState
    else (s.setReferenced n false).finish .done 0 0

/-- CLEAR_REFERENCE (R114). -/
def execClearReference (index : Byte) (_argument : BitVec 16) (s : State) : Host.Outcome State Fault Refusal :=
  .next (s.unlessReset fun s => s.accept 0x12 fun s => s.takeClearReference index)

/-! ### SNAPSHOT (R182) -/

/-- R182: SNAPSHOT, accepted. -/
def State.takeSnapshot (s : State) (index : Byte) : State :=
  s.withAxis index fun s n =>
    if s.noSetupState || (s.axis n).seq.state == .dormant then s.refuse .refusedState
    else (s.pageDue n).pend index

/-- SNAPSHOT (R182). -/
def execSnapshot (index : Byte) (_argument : BitVec 16) (s : State) : Host.Outcome State Fault Refusal :=
  .next (s.unlessReset fun s => s.accept 0x13 fun s => s.takeSnapshot index)

/-! ### CLOSE_APERTURE and OPEN_APERTURE (R145) -/

/-- R145: the named entry of the setup in force is in use. -/
def State.entryUsed (s : State) (i : EntryId) : Bool :=
  match s.setup with
  | none => false
  | some c => (c.apertures.get i).rights != .none

/-- R145: an aperture command, accepted: the three tests in order, then the entry takes the state given. -/
def State.takeAperture (s : State) (index : Byte) (opened : Bool) : State :=
  match EntryId.ofIndex index with
  | none => s.refuse .refusedArgument
  | some i =>
    if s.noSetupState then s.refuse .refusedState
    else if !s.entryUsed i then s.refuse .refusedArgument
    else { s with apertureOpen := s.apertureOpen.set i opened }.finish .done 0 0

/-- CLOSE_APERTURE (R145). -/
def execCloseAperture (index : Byte) (_argument : BitVec 16) (s : State) : Host.Outcome State Fault Refusal :=
  .next (s.unlessReset fun s => s.accept 0x20 fun s => s.takeAperture index false)

/-- OPEN_APERTURE (R145). -/
def execOpenAperture (index : Byte) (_argument : BitVec 16) (s : State) : Host.Outcome State Fault Refusal :=
  .next (s.unlessReset fun s => s.accept 0x21 fun s => s.takeAperture index true)

/-! ### RESET_PART (R196 and the reset rule of each block) -/

/-- R122: a position unit at RESET_PART. -/
def PositionUnit.resetPart (p : PositionUnit) : PositionUnit :=
  { p with shift := 0, span := none, lastSpan := 0, stallStart := none, params := none, standstill := false }

/-- R127, R136: a drive stage at RESET_PART. -/
def DriveStage.resetPart (v : DriveStage) : DriveStage :=
  { v.dropDirection with mode := .none, pause := 0, restStart := none, revClear := false, dirSetup := false }

/-- R183: the reporter's part for an axis at RESET_PART. -/
def PageUnit.resetPart (g : PageUnit) : PageUnit := { PageUnit.reset with serial := g.serial }

/-- R25, R79, R122, R136, R153, R183: the blocks of an axis at RESET_PART. -/
def AxisUnit.resetPart (u : AxisUnit) : AxisUnit :=
  { route := .reset, seq := .reset, pos := u.pos.resetPart, drive := u.drive.resetPart, page := u.page.resetPart }

/-- R148: the memory port at RESET_PART: requests withdrawn, the access in progress carried to its end with its answer
dropped. -/
def MemoryPort.resetPart (p : MemoryPort) : MemoryPort :=
  { MemoryPort.reset with access := p.access.map fun a => { a with dropped := true } }

/-- R173, R196: the command unit at RESET_PART, before its own result becomes final. -/
def CommandUnit.resetPart (c : CommandUnit) : CommandUnit :=
  { CommandUnit.reset with setupAddr := c.setupAddr, lastCode := 0x7F }

/-- R173, R196: RESET_PART. -/
def State.resetPart (s : State) : State :=
  { s with
    cmd := s.cmd.resetPart
    setup := none
    shadow := none
    apertureOpen := ⟨false, false, false, false, false, false⟩
    port := s.port.resetPart
    axes := ⟨s.axes.a0.resetPart, s.axes.a1.resetPart, s.axes.a2.resetPart, s.axes.a3.resetPart⟩
    reporter := .reset
    attn := 0
    attnMask := 0 }.finish .done 0 0

/-- RESET_PART (R196): accepted whatever the result. -/
def execResetPart (_index : Byte) (_argument : BitVec 16) (s : State) : Host.Outcome State Fault Refusal :=
  .next (s.unlessReset State.resetPart)

/-- UNKNOWN_COMMAND_CODE (R192). A code of the table of 10.2 is another command (WellFormed; assumption 13). -/
def execUnknownCommandCode (code _index : Byte) (_argument : BitVec 16) (s : State) :
    Host.Outcome State Fault Refusal :=
  if knownCommandCodes.contains code && !s.resetLow then .refused .notACommand
  else .next (s.unlessReset fun s => s.accept code fun s => s.refuse .refusedArgument)

end Sys2Proof.Machine
end

