-- ==== Sys2Proof/Machine/Inputs.lean ====
section
/-! DEFINITION. The meanings of the pins and of the position inputs: PIN_RESET, the stop line and its notice (chapter 6),
count changes, index pulses, REF and the wire-break monitor (chapter 5). -/

namespace Sys2Proof.Machine

/-! ### PIN_RESET (R174) -/

/-- R122: a position unit after pin reset holds the REF level found at the release. -/
def AxisUnit.afterPinReset (refLevel : Bool) : AxisUnit := { AxisUnit.reset with pos.refLevel := refLevel }

/-- PIN_RESET (R174, R136, R131, R122): every block at its pin-reset values, with the levels found, RESET_N low
after the event or released. Run and direction line of a STEER axis go inactive in this one event, where R127 lists pin reset
among the cases with a hold time: R136 and table 6.5 are followed, assumption 34. -/
def execPinReset (pins : ResetPins) (refLevels : PerAxis Bool) (s : State) : Host.Outcome State Fault Refusal :=
  .next
    { State.reset with
      xstopHigh := pins.xstopHigh
      axes := ⟨.afterPinReset refLevels.a0, .afterPinReset refLevels.a1, .afterPinReset refLevels.a2,
        .afterPinReset refLevels.a3⟩
      resetLow := pins.low
      freeCount := s.freeCount
      pending := s.pending }

/-! ### The stop line (R131 to R134) -/

/-- R132: a drive stage takes an assertion; its lines follow the level. -/
def State.lockAxis (s : State) (n : AxisId) : State :=
  (s.modDrive n fun v => { v with lockout := true }).evalDrive n

/-- R133: the states of the controller in which sequencers take the assertion. -/
def State.linesTaken (s : State) : Bool :=
  s.cmd.controller == .loaded || s.cmd.controller == .running || s.cmd.controller == .halting

/-- R133: the monitor hands the assertion notice to the sequencer of an axis that is not DORMANT. -/
def State.handNotice (s : State) (n : AxisId) : State :=
  if s.linesTaken && (s.axis n).seq.state != .dormant then
    s.modSeq n fun q => { q with stopNotices := q.stopNotices + 1 }
  else s

/-- XSTOP_ASSERTION (R131, R132, R134): taken while the monitor holds the level high; with it low, and while RESET_N is
low, there is no edge (assumptions 2 and 26). -/
def execXstopAssertion (s : State) : Host.Outcome State Fault Refusal :=
  if s.xstopHigh && !s.resetLow then
    let s := { s with xstopHigh := false }.raise xstopAttnBit
    .next ((s.eachAxis State.lockAxis).eachAxis State.handNotice)
  else .next s

/-- R132: a drive stage takes a release: its lockout clears where its sequencer's request is inactive. -/
def State.unlockAxis (s : State) (n : AxisId) : State :=
  let off := (s.axis n).seq.request.isNone
  (s.modDrive n fun v => { v with lockout := v.lockout && !off }).evalDrive n

/-- XSTOP_RELEASE (R131, R132, R134): taken while the monitor holds the level low and RESET_N is high. -/
def execXstopRelease (s : State) : Host.Outcome State Fault Refusal :=
  if s.xstopHigh || s.resetLow then .next s
  else
    let s := { s with xstopHigh := true }.raise xstopAttnBit
    .next (s.eachAxis State.unlockAxis)

/-- ASSERTION_NOTICE (R133): a sequencer takes the oldest assertion notice handed to it; none waiting, or LOADING, is no
event (R78; assumptions 2 and 23). -/
def execAssertionNotice (n : AxisId) (s : State) : Host.Outcome State Fault Refusal :=
  if (s.axis n).seq.stopNotices ≠ 0 && s.linesTaken then
    let s := s.modSeq n fun q => { q with stopNotices := q.stopNotices - 1 }
    .next ((s.takeCause n .lineStop .lineStopped).conclude n)
  else .next s

/-! ### Counting (R102, R103) -/

/-- R102: the count of an edge in the edge mode in force, or none. -/
def EdgeMode.count (m : EdgeMode) : Edge → Option Direction
  | .both => none
  | .single .a true other => some (if other then .reverse else .forward)
  | .single .a false other =>
    match m with
    | .x1 => none
    | .x2 => some (if other then .forward else .reverse)
    | .x4 => some (if other then .forward else .reverse)
  | .single .b true other =>
    match m with
    | .x1 => none
    | .x2 => none
    | .x4 => some (if other then .forward else .reverse)
  | .single .b false other =>
    match m with
    | .x1 => none
    | .x2 => none
    | .x4 => some (if other then .reverse else .forward)

/-- R105: the signed sum of the counts of one change. -/
def countSum (ds : List Direction) : Int := (ds.map Direction.sign).sum

/-- R103: the raw count after a change. -/
def AxisKind.addCounts (k : AxisKind) (raw : Word) (sum : Int) : Word :=
  match k with
  | .linear => raw + BitVec.ofInt 32 sum
  | .rotary m => BitVec.ofInt 32 (((raw.toNat : Int) + sum) % (m : Int))

/-- R111: one count in a span measurement: raised in its direction, ended by a count against it. -/
def spanCount (m : Option SpanMeasurement) (d : Direction) : Option SpanMeasurement :=
  match m with
  | none => none
  | some w => if d = w.direction then some { w with count := w.count + 1 } else none

/-- R103, R106, R107, R111: the position unit takes a change of one or more counts at a time base reading. -/
def PositionUnit.takeCounts (p : PositionUnit) (k : AxisKind) (ds : List Direction) (now : Word) : PositionUnit :=
  { p with
    raw := k.addCounts p.raw (countSum ds)
    lastChange := now
    standstill := false
    stallStart := p.stallStart.map fun _ => now
    span := ds.foldl spanCount p.span
    lastCount := ds.getLast? }

/-- R41, R91: the leg is the FINAL leg of the first plan of a NOTIFY_SLOW record. -/
def slowPassage (x : Executing) (l : Leg) : Bool := l.role == .final && l.cls == .first && x.record.notifySlow

/-- R41: the slow passage: axis ATTN bit and page. -/
def State.passSlow (s : State) (n : AxisId) : State := (s.raise (axisAttnBit n)).pageDue n

/-- R83, R91, R92: a count change of `sum` for a leg: g follows, then the zone test of the state. -/
def State.legCounts (s : State) (n : AxisId) (x : Executing) (m : MoveState) (l : Leg) (sum : Int) : State :=
  let l := { l with togo := l.togo - l.direction.sign * sum }
  let s := s.setWork n (.move { m with leg := some l })
  let cut : Int := (l.cutPoint.getD 0 : Nat)
  match (s.axis n).seq.state with
  | .rapid =>
    if l.togo ≤ cut then s.enterCoasting n
    else if l.togo ≤ (l.captured.slow : Int) then
      let s := s.setAxisState n .creep
      if slowPassage x l then s.passSlow n else s
    else s
  | .creep => if l.togo ≤ cut then s.enterCoasting n else s
  | .coasting => s
  | .pausing => s
  | .dormant => s
  | .idle => s
  | .seeking => s
  | .dwelling => s
  | .awaiting => s
  | .stopping => s
  | .held => s

/-- R120: a count change of `sum` for a search in SEEKING: the travel follows, and above B the search is exhausted. -/
def State.searchCounts (s : State) (n : AxisId) (x : Executing) (c : SearchState) (sum : Int) : State :=
  if (s.axis n).seq.state = .seeking then
    let travel := c.travel + c.motionDirection.sign * sum
    let s := s.setWork n (.search { c with travel := travel })
    if c.travel < travel && decide ((x.record.argB : Int) < travel) then
      s.enterStopping n .searchExhausted (some .searchExhausted)
    else s
  else s

/-- R83, R120: the sequencer takes a count change. -/
def State.sequencerCounts (s : State) (n : AxisId) (sum : Int) : State :=
  match (s.axis n).seq.executing with
  | none => s
  | some x =>
    match x.work with
    | .move m =>
      match m.leg with
      | some l => s.legCounts n x m l sum
      | none => s
    | .search c => s.searchCounts n x c sum
    | .verifying => s
    | .begun => s
    | .dwell _ => s
    | .await _ => s

/-- COUNT_CHANGE (R102, R103, R106, R107, R111): with counting OFF, or with no edge evaluated, nothing changes. -/
def execCountChange (n : AxisId) (edges : List Edge) (s : State) : Host.Outcome State Fault Refusal :=
  match (s.axis n).pos.counting with
  | none => .next s
  | some c =>
    let ds := edges.filterMap c.edge.count
    if ds.isEmpty then .next s
    else
      let s := s.modPos n fun p => p.takeCounts c.kind ds s.timeBase
      .next ((s.sequencerCounts n (countSum ds)).conclude n)

/-! ### Index pulses (R111, R112, R118) -/

/-- R112: the expected span of an enabled span check. -/
def PositionUnit.expectedSpan (p : PositionUnit) : Option (Nat × Nat) :=
  match p.params, p.counting with
  | some q, some ⟨_, .rotary m⟩ => if q.indexCheck then some (m, q.tolerance) else none
  | some q, some ⟨_, .linear⟩ => if q.indexCheck && q.indexSpan != 0 then some (q.indexSpan, q.tolerance) else none
  | some _, none => none
  | none, _ => none

/-- R112: a span is out of tolerance under an enabled check. -/
def PositionUnit.slips (p : PositionUnit) (span : Nat) : Bool :=
  match p.expectedSpan with
  | some (want, tol) => decide (tol < ((span : Int) - (want : Int)).natAbs)
  | none => false

/-- The span as the 32 bits stored; a span beyond them is a free value (assumption 7). -/
def storedSpan (k span : Nat) : Word := if span < 4294967296 then BitVec.ofNat 32 span else Config.spanOverflow k

/-- R111, R112: the span check at a pulse: the span is stored, and the pulse starts the next measurement in the
direction of the last count; with no count before it the direction is a free value (assumption 6). -/
def PositionUnit.takePulse (p : PositionUnit) (k : Nat) : PositionUnit :=
  { p with
    lastSpan := (p.span.map fun m => storedSpan k m.count).getD p.lastSpan
    span := some ⟨p.lastCount.getD (if Config.spanDirection k then .forward else .reverse), 0⟩ }

/-- R118: the search state that a pulse qualifies, if any: SEEKING on the search motion, and in mode SWITCH_INDEX with REF
active as last handed. -/
def Sequencer.qualifies (q : Sequencer) : Option (Executing × SearchState) :=
  if q.state = .seeking then
    match q.executing with
    | none => none
    | some x =>
      match x.work with
      | .search c => if c.motion == .search && (x.record.selector == 1 || q.refHanded) then some (x, c) else none
      | .move _ => none
      | .verifying => none
      | .begun => none
      | .dwell _ => none
      | .await _ => none
  else none

/-- R118: the sequencer tests a pulse: at a qualifying one the raw count is set so that the reported position equals A,
the measurement that starts at this pulse stands, and the axis passes to COASTING. -/
def State.testPulse (s : State) (n : AxisId) : State :=
  match (s.axis n).seq.qualifies with
  | none => s
  | some (x, c) =>
    let s := s.modPos n fun p => { p.setPosition x.record.argA with span := p.span }
    (s.setWork n (.search { c with qualified := true })).enterCoasting n

/-- R112: the notice of a slip. -/
def State.takeSlip (s : State) (n : AxisId) (slip : Bool) : State :=
  if slip then s.loseReference n .slipped .slipped else s

/-- INDEX_PULSE (R111, R112, R118): the span check, its slip if any, and the sequencer's test of the pulse. The order of
the last two is not stated and is a free value (assumption 8). -/
def execIndexPulse (n : AxisId) (s : State) : Host.Outcome State Fault Refusal :=
  match (s.axis n).pos.counting with
  | none => .next s
  | some _ =>
    let k := s.freeCount
    let p := (s.axis n).pos
    let slip := (p.span.map fun m => p.slips m.count).getD false
    let s := { s.modPos n fun p => p.takePulse k with freeCount := k + 1 }
    .next
      ((if Config.pulseBeforeSlip k then (s.testPulse n).takeSlip n slip else (s.takeSlip n slip).testPulse n).conclude n)

/-! ### REF (R105, R117) -/

/-- R117: REF going inactive ends a back-off in SEEKING. -/
def State.endBackOff (s : State) (n : AxisId) : State :=
  if (s.axis n).seq.state = .seeking then
    match (s.axis n).seq.executing with
    | none => s
    | some x =>
      match x.work with
      | .search c => if c.motion == .backOff then s.enterCoasting n else s
      | .move _ => s
      | .verifying => s
      | .begun => s
      | .dwell _ => s
      | .await _ => s
  else s

/-- REF_LEVEL_CHANGE (R105, R117): the unit holds the level, and hands it to a sequencer whose axis is not DORMANT. The
level it holds already is no change (assumption 2). -/
def execRefLevelChange (n : AxisId) (active : Bool) (s : State) : Host.Outcome State Fault Refusal :=
  if (s.axis n).pos.refLevel = active then .next s
  else
    let s := s.modPos n fun p => { p with refLevel := active }
    if (s.axis n).seq.state = .dormant then .next s
    else
      let s := s.modSeq n fun q => { q with refHanded := active }
      .next ((if active then s else s.endBackOff n).conclude n)

/-! ### The wire-break monitor (R108, R109) -/

/-- R108: the state of one pair; true is BROKEN. -/
def PairStates.get (p : PairStates) : Pair → Bool
  | .a => p.a
  | .b => p.b
  | .z => p.z

/-- R108: a pair takes a state. -/
def PairStates.set (p : PairStates) (i : Pair) (broken : Bool) : PairStates :=
  match i with
  | .a => { p with a := broken }
  | .b => { p with b := broken }
  | .z => { p with z := broken }

/-- PAIR_BROKEN (R108, R109): the change from GOOD to LOST is encoder loss. -/
def execPairBroken (n : AxisId) (pair : Pair) (s : State) : Host.Outcome State Fault Refusal :=
  let p := (s.axis n).pos
  if p.counting.isNone || p.pairs.get pair then .next s
  else
    let lost := p.pairs.lost
    let s := s.modPos n fun p => { p with pairs := p.pairs.set pair true }
    if lost then .next s
    else
      let s := s.modPos n fun p => { p with lossMark := true }
      .next ((s.loseReference n .encoderLost .encoderLost).conclude n)

/-- PAIR_INTACT (R108). -/
def execPairIntact (n : AxisId) (pair : Pair) (s : State) : Host.Outcome State Fault Refusal :=
  let p := (s.axis n).pos
  if p.counting.isNone || !p.pairs.get pair then .next s
  else .next (s.modPos n fun p => { p with pairs := p.pairs.set pair false })

end Sys2Proof.Machine
end

