-- ==== Sys2Proof/Machine/Timers.lean ====
section
/-! DEFINITION. The meanings of the part's own timers, of the closure announcements and of the settled reports. A timer
that does not run or has not run out gives no event (assumptions 2 and 14). -/

namespace Sys2Proof.Machine

/-- Conventions, Numbers and units: the time base has reached the reading `due` of a timer started at `start`. -/
def readingReached (start due now : Word) : Bool := timeReached start (due - start).toNat now

/-! ### Standstill and stall (R106, R107) -/

/-- R106: the condition holds and has not been reported. -/
def PositionUnit.standstillDue (p : PositionUnit) (now : Word) : Bool :=
  match p.params with
  | none => false
  | some q => !p.standstill && timeReached p.lastChange q.settle now

/-- R64, R93: what the sequencer does with standstill reached. -/
def State.sequencerRests (s : State) (n : AxisId) : State :=
  match (s.axis n).seq.state with
  | .coasting => s.coastEnd n
  | .stopping => s.finishStopping n
  | .dormant => s
  | .idle => s
  | .rapid => s
  | .creep => s
  | .pausing => s
  | .seeking => s
  | .dwelling => s
  | .awaiting => s
  | .held => s

/-- STANDSTILL_REACHED (R106, R64, R93, R129). -/
def execStandstillReached (n : AxisId) (s : State) : Host.Outcome State Fault Refusal :=
  if (s.axis n).pos.standstillDue s.timeBase then
    .next (((s.modPos n fun p => { p with standstill := true }).sequencerRests n).conclude n)
  else .next s

/-- R107: the stall watch runs and has run out. -/
def PositionUnit.stallDue (p : PositionUnit) (now : Word) : Bool :=
  match p.params, p.stallStart with
  | some q, some t => timeReached t q.stall now
  | some _, none => false
  | none, _ => false

/-- STALL_TIME_EXPIRY (R107, R62, R63): the watch stops and STALLED is taken in a driving state. -/
def execStallTimeExpiry (n : AxisId) (s : State) : Host.Outcome State Fault Refusal :=
  if (s.axis n).pos.stallDue s.timeBase && (s.axis n).seq.state.driving then
    .next (((s.modPos n fun p => { p with stallStart := none }).takeCause n .stalled .stalled).conclude n)
  else .next s

/-! ### The timers of a record (R47, R49, R69) -/

/-- R69: the move time limit has run out. -/
def State.moveTimeOut (s : State) (n : AxisId) : Bool :=
  match (s.axis n).seq.executing, (s.axis n).seq.moveExpiry with
  | some x, some t => readingReached x.startTime t s.timeBase
  | some _, none => false
  | none, _ => false

/-- MOVE_TIME_LIMIT_EXPIRY (R69, R63): taken in a motion state only. -/
def execMoveTimeLimitExpiry (n : AxisId) (s : State) : Host.Outcome State Fault Refusal :=
  if s.moveTimeOut n && (s.axis n).seq.state.inMotion then
    .next ((s.enterStopping n .timedOut (some .timedOut)).conclude n)
  else .next s

/-- R47: the expiry reading of the dwell of a DWELLING axis, if it is reached. -/
def State.dwellDone (s : State) (n : AxisId) : Option Word :=
  if (s.axis n).seq.state = .dwelling then
    match (s.axis n).seq.executing with
    | none => none
    | some x =>
      match x.work with
      | .dwell t => if readingReached x.startTime t s.timeBase then some t else none
      | .move _ => none
      | .search _ => none
      | .await _ => none
      | .verifying => none
      | .begun => none
  else none

/-- DWELL_EXPIRY (R47): DONE with an elapsed time of A, then IDLE. -/
def execDwellExpiry (n : AxisId) (s : State) : Host.Outcome State Fault Refusal :=
  match s.dwellDone n with
  | some t => .next (((s.closeRecordAt n .done t).enterIdle n).conclude n)
  | none => .next s

/-- R48: the executing record and the wait of an AWAITING axis. -/
def Sequencer.waiting (q : Sequencer) : Option (Executing × AwaitState) :=
  if q.state = .awaiting then
    match q.executing with
    | none => none
    | some x =>
      match x.work with
      | .await a => some (x, a)
      | .move _ => none
      | .search _ => none
      | .dwell _ => none
      | .verifying => none
      | .begun => none
  else none

/-- R49: the deadline of the wait is reached. -/
def State.waitOver (s : State) (n : AxisId) : Bool :=
  match (s.axis n).seq.waiting with
  | none => false
  | some (x, a) =>
    match a.deadline with
    | none => false
    | some t => readingReached x.startTime t s.timeBase

/-- AWAIT_DEADLINE (R49): WAIT_EXPIRED, then HELD. -/
def execAwaitDeadline (n : AxisId) (s : State) : Host.Outcome State Fault Refusal :=
  if s.waitOver n then .next (((s.closeRecord n .waitExpired).enterHeld n .waitExpired).conclude n) else .next s

/-- CLOSURE_ANNOUNCEMENT (R48, R49): the waiting sequencer takes the oldest announcement handed to it: DONE and IDLE where
it satisfies the test, else the wait goes on. -/
def execClosureAnnouncement (n : AxisId) (s : State) : Host.Outcome State Fault Refusal :=
  match (s.axis n).seq.waiting with
  | none => .next s
  | some (_, a) =>
    match a.announced with
    | [] => .next s
    | e :: rest =>
      if stampAtOrAfter e a.stamp then .next (((s.closeRecord n .done).enterIdle n).conclude n)
      else .next (s.setWork n (.await { a with announced := rest }))

/-! ### Patrol and report timers (R14, R181) -/

/-- R14: the patrol timer runs and has run out. -/
def State.patrolDue (s : State) (n : AxisId) : Bool :=
  match s.setup, (s.axis n).route.patrolStart with
  | some c, some t => timeReached t c.patrol s.timeBase
  | some _, none => false
  | none, _ => false

/-- PATROL_TIMER_EXPIRY (R14): a patrol fetch where the fetch conditions other than DRY clear hold, else the timer starts
again. -/
def execPatrolTimerExpiry (n : AxisId) (s : State) : Host.Outcome State Fault Refusal :=
  if s.patrolDue n then
    if s.fetchReady n then .next ((s.modRoute n fun r => { r with patrolStart := none }).startFetch n)
    else .next (s.modRoute n fun r => { r with patrolStart := some s.timeBase })
  else .next s

/-- R181: the report timer runs and has run out. -/
def State.reportDue (s : State) : Bool :=
  match s.setup, s.reporter.timerStart with
  | some c, some t => timeReached t c.report s.timeBase
  | some _, none => false
  | none, _ => false

/-- REPORT_TIMER_EXPIRY (R181): every page of an axis that is not DORMANT is due, and the timer starts again. -/
def execReportTimerExpiry (s : State) : Host.Outcome State Fault Refusal :=
  if s.reportDue then .next ({ s with reporter.timerStart := some s.timeBase }.eachAxis State.pageDue) else .next s

/-! ### The drive stage's timers (R127, R129, R130) -/

/-- R129: the reversal pause has elapsed and the reversal clear flag is not yet set. -/
def DriveStage.pauseDue (v : DriveStage) (now : Word) : Bool :=
  match v.restStart with
  | none => false
  | some t => !v.revClear && timeReached t v.pause now

/-- PAUSE_ELAPSED (R129, R130): the reversal clear flag is set; a PAUSING sequencer takes pause elapsed and the lines
follow, as at the end of every event of the axis. -/
def execPauseElapsed (n : AxisId) (s : State) : Host.Outcome State Fault Refusal :=
  if (s.axis n).drive.pauseDue s.timeBase then
    .next ((s.modDrive n fun v => { v with revClear := true }).conclude n)
  else .next s

/-- DIRECTION_SETUP_ELAPSED (R127): the conditions of R125 are tested again and run follows. -/
def execDirectionSetupElapsed (n : AxisId) (s : State) : Host.Outcome State Fault Refusal :=
  if (s.axis n).drive.dirSetup then .next ((s.modDrive n fun v => { v with dirSetup := false }).conclude n)
  else .next s

/-- R127: the hold time of the direction line is over; where STEER mode has ended the line goes inactive. Where a commit has
brought STEER mode back meanwhile, the setup time of the changed line runs (assumption 35). -/
def DriveStage.endHold (v : DriveStage) : DriveStage :=
  { v with
    dirHold := false, runRev := if v.dirDrop then false else v.runRev, dirDrop := false
    dirSetup := v.dirSetup || (v.dirDrop && v.mode == .steer) }

/-- DIRECTION_HOLD_ELAPSED (R127, R136). -/
def execDirectionHoldElapsed (n : AxisId) (s : State) : Host.Outcome State Fault Refusal :=
  if (s.axis n).drive.dirHold then .next ((s.modDrive n DriveStage.endHold).conclude n) else .next s

/-! ### SETTLED_REPORT (R172) -/

/-- SETTLED_REPORT (R172): the command unit takes the oldest report of an axis; the halt completes in the event in which
an axis joins the set and the set then holds all four. With no halt pending a report has no effect. -/
def execSettledReport (n : AxisId) (s : State) : Host.Outcome State Fault Refusal :=
  match s.cmd.halt with
  | none => .next s
  | some h =>
    match h.reports.get n with
    | [] => .next s
    | b :: rest =>
      let h := { h with settled := h.settled.set n b, reports := h.reports.set n rest }
      if b && allSettled h.settled then .next s.completeHalt
      else .next { s with cmd.halt := some h }

end Sys2Proof.Machine
end

