-- ==== Sys2Proof/Machine/Dispatch.lean ====
section
/-! DEFINITION. The dispatch: one arm for each command and event of the table, each one call of its meaning. -/

namespace Sys2Proof.Machine

def exec (i : Instr) (s : State) : Host.Outcome State Fault Refusal :=
  match i with
  | .loadSetup index argument => Sys2Proof.Machine.execLoadSetup index argument s
  | .start index argument => Sys2Proof.Machine.execStart index argument s
  | .haltAll index argument => Sys2Proof.Machine.execHaltAll index argument s
  | .abortAxis index argument => Sys2Proof.Machine.execAbortAxis index argument s
  | .releaseAxis index argument => Sys2Proof.Machine.execReleaseAxis index argument s
  | .clearReference index argument => Sys2Proof.Machine.execClearReference index argument s
  | .snapshot index argument => Sys2Proof.Machine.execSnapshot index argument s
  | .closeAperture index argument => Sys2Proof.Machine.execCloseAperture index argument s
  | .openAperture index argument => Sys2Proof.Machine.execOpenAperture index argument s
  | .resetPart index argument => Sys2Proof.Machine.execResetPart index argument s
  | .unknownCommandCode code index argument => Sys2Proof.Machine.execUnknownCommandCode code index argument s
  | .notice value => Sys2Proof.Machine.execNotice value s
  | .attn value => Sys2Proof.Machine.execAttn value s
  | .attnMask value => Sys2Proof.Machine.execAttnMask value s
  | .setupAddr value => Sys2Proof.Machine.execSetupAddr value s
  | .registerWriteNoEffect offset lanes value => Sys2Proof.Machine.execRegisterWriteNoEffect offset lanes value s
  | .pinReset pins refLevels => Sys2Proof.Machine.execPinReset pins refLevels s
  | .xstopAssertion => Sys2Proof.Machine.execXstopAssertion s
  | .xstopRelease => Sys2Proof.Machine.execXstopRelease s
  | .assertionNotice n => Sys2Proof.Machine.execAssertionNotice n s
  | .countChange n edges => Sys2Proof.Machine.execCountChange n edges s
  | .indexPulse n => Sys2Proof.Machine.execIndexPulse n s
  | .refLevelChange n active => Sys2Proof.Machine.execRefLevelChange n active s
  | .pairBroken n pair => Sys2Proof.Machine.execPairBroken n pair s
  | .pairIntact n pair => Sys2Proof.Machine.execPairIntact n pair s
  | .standstillReached n => Sys2Proof.Machine.execStandstillReached n s
  | .stallTimeExpiry n => Sys2Proof.Machine.execStallTimeExpiry n s
  | .moveTimeLimitExpiry n => Sys2Proof.Machine.execMoveTimeLimitExpiry n s
  | .dwellExpiry n => Sys2Proof.Machine.execDwellExpiry n s
  | .awaitDeadline n => Sys2Proof.Machine.execAwaitDeadline n s
  | .closureAnnouncement n => Sys2Proof.Machine.execClosureAnnouncement n s
  | .patrolTimerExpiry n => Sys2Proof.Machine.execPatrolTimerExpiry n s
  | .reportTimerExpiry => Sys2Proof.Machine.execReportTimerExpiry s
  | .pauseElapsed n => Sys2Proof.Machine.execPauseElapsed n s
  | .directionSetupElapsed n => Sys2Proof.Machine.execDirectionSetupElapsed n s
  | .directionHoldElapsed n => Sys2Proof.Machine.execDirectionHoldElapsed n s
  | .transferTimeout => Sys2Proof.Machine.execTransferTimeout s
  | .arbiterGrant => Sys2Proof.Machine.execArbiterGrant s
  | .fetchEnd n answer => Sys2Proof.Machine.execFetchEnd n answer s
  | .verificationRereadEnd n answer => Sys2Proof.Machine.execVerificationRereadEnd n answer s
  | .closureRereadEnd n answer => Sys2Proof.Machine.execClosureRereadEnd n answer s
  | .outcomeWriteEnd n answer => Sys2Proof.Machine.execOutcomeWriteEnd n answer s
  | .deliveryRereadEnd n answer => Sys2Proof.Machine.execDeliveryRereadEnd n answer s
  | .deliveryWriteEnd n answer => Sys2Proof.Machine.execDeliveryWriteEnd n answer s
  | .pageWriteEnd answer => Sys2Proof.Machine.execPageWriteEnd answer s
  | .setupChunkEnd answer => Sys2Proof.Machine.execSetupChunkEnd answer s
  | .settledReport n => Sys2Proof.Machine.execSettledReport n s

end Sys2Proof.Machine
end

