-- ==== Sys2Proof/Machine/Idle.lean ====
section
/-! DEFINITION. What a step does on an empty queue: the part puts the events that it raises itself into the queue, and
where it raises none, one millisecond of the time base passes (assumptions 1 and 24). -/

namespace Sys2Proof.Machine

/-- Events that need no time to pass: notices, announcements and reports under way, the microsecond times of a STEER
direction line, and a grant of the free port. -/
def State.handedEvents (s : State) : List Instr :=
  (AxisId.list.filter fun n => s.linesTaken && (s.axis n).seq.stopNotices != 0).map .assertionNotice
    ++ (AxisId.list.filter fun n => ((s.axis n).seq.waiting.map fun w => !w.2.announced.isEmpty).getD false).map
        .closureAnnouncement
    ++ (AxisId.list.filter fun n => (s.cmd.halt.map fun h => !(h.reports.get n).isEmpty).getD false).map .settledReport
    ++ (AxisId.list.filter fun n => (s.axis n).drive.dirSetup).map .directionSetupElapsed
    ++ (AxisId.list.filter fun n => (s.axis n).drive.dirHold).map .directionHoldElapsed
    ++ (if s.port.access.isNone && s.nextRequester.isSome then [.arbiterGrant] else [])

/-- The timers of axis n that have run out. -/
def State.dueTimers (s : State) (n : AxisId) : List Instr :=
  (if (s.axis n).pos.standstillDue s.timeBase then [.standstillReached n] else [])
    ++ (if (s.axis n).pos.stallDue s.timeBase && (s.axis n).seq.state.driving then [.stallTimeExpiry n] else [])
    ++ (if s.moveTimeOut n && (s.axis n).seq.state.inMotion then [.moveTimeLimitExpiry n] else [])
    ++ (if (s.dwellDone n).isSome then [.dwellExpiry n] else [])
    ++ (if s.waitOver n then [.awaitDeadline n] else [])
    ++ (if s.patrolDue n then [.patrolTimerExpiry n] else [])
    ++ (if (s.axis n).drive.pauseDue s.timeBase then [.pauseElapsed n] else [])

/-- The events that the part raises itself now. -/
def State.ownEvents (s : State) : List Instr :=
  s.handedEvents ++ AxisId.list.flatMap s.dueTimers ++ (if s.reportDue then [.reportTimerExpiry] else [])

/-- R129: the drive stage of axis n takes the standstill condition as the time base gives it: its rest start and, with a
pause of 0 ms, its reversal clear flag. -/
def State.takeRest (s : State) (n : AxisId) : State := s.modDrive n fun v => v.rest (s.standsStill n) s.timeBase

/-- R129, R130: axis n as a millisecond has passed. Where that makes the axis stand still and its pause is 0 ms, the reversal
clear flag is set here: a PAUSING sequencer takes pause elapsed, and the run line of a request held back for the pause becomes
active. Elsewhere the lines alone follow (assumption 25). -/
def State.tickAxis (s : State) (n : AxisId) : State :=
  let s := s.takeRest n
  if (s.axis n).pauseOver then s.conclude n else s.evalDrive n

/-- Conventions, Numbers and units: one millisecond passes; the time base wraps, and every axis follows. -/
def State.tick (s : State) : State := { s with timeBase := s.timeBase + 1 }.eachAxis State.tickAxis

/-- An empty queue: the part's own events are queued; where there is none, one millisecond passes. While RESET_N is low the
part does nothing, and the time base stays 0 (R174). -/
def State.idle (s : State) : State :=
  if s.resetLow then s
  else
    match s.ownEvents with
    | c :: rest => { s with pending := c :: rest }
    | [] => s.tick

end Sys2Proof.Machine
end

