-- ==== Sys2Proof/Safety.lean ====
section
/-! DEFINITION. What a sound state of the part is, in the terms the statements use: the drive lines (chapter 6), the
order of staged records (R6), the shape of an axis in each of its states (table 3.1, R55, R60), and the command unit
(R156, R191). -/

namespace Sys2Proof

/-! ### Who sends a command -/

/-- The events that the part raises itself: notices and reports under way, timers, and the arbiter's grant. A host write, a
pin, an input and the bus's end of an access are none of them. -/
def Instr.raisedByPart : Instr → Bool
  | .assertionNotice _ | .closureAnnouncement _ | .settledReport _ | .directionSetupElapsed _ | .directionHoldElapsed _
  | .arbiterGrant | .standstillReached _ | .stallTimeExpiry _ | .moveTimeLimitExpiry _ | .dwellExpiry _ | .awaitDeadline _
  | .patrolTimerExpiry _ | .pauseElapsed _ | .reportTimerExpiry => true
  | .loadSetup _ _ | .start _ _ | .haltAll _ _ | .abortAxis _ _ | .releaseAxis _ _ | .clearReference _ _ | .snapshot _ _
  | .closeAperture _ _ | .openAperture _ _ | .resetPart _ _ | .unknownCommandCode _ _ _ | .notice _ | .attn _ | .attnMask _
  | .setupAddr _ | .registerWriteNoEffect _ _ _ | .pinReset _ _ | .xstopAssertion | .xstopRelease | .countChange _ _
  | .indexPulse _ | .refLevelChange _ _ | .pairBroken _ _ | .pairIntact _ _ | .transferTimeout | .fetchEnd _ _
  | .verificationRereadEnd _ _ | .closureRereadEnd _ _ | .outcomeWriteEnd _ _ | .deliveryRereadEnd _ _
  | .deliveryWriteEnd _ _ | .pageWriteEnd _ | .setupChunkEnd _ => false

/-- The writes to the register port (R188). -/
def Instr.isPortWrite : Instr → Bool
  | .loadSetup _ _ | .start _ _ | .haltAll _ _ | .abortAxis _ _ | .releaseAxis _ _ | .clearReference _ _ | .snapshot _ _
  | .closeAperture _ _ | .openAperture _ _ | .resetPart _ _ | .unknownCommandCode _ _ _ | .notice _ | .attn _ | .attnMask _
  | .setupAddr _ | .registerWriteNoEffect _ _ _ => true
  | .assertionNotice _ | .closureAnnouncement _ | .settledReport _ | .directionSetupElapsed _ | .directionHoldElapsed _
  | .arbiterGrant | .standstillReached _ | .stallTimeExpiry _ | .moveTimeLimitExpiry _ | .dwellExpiry _ | .awaitDeadline _
  | .patrolTimerExpiry _ | .pauseElapsed _ | .reportTimerExpiry | .pinReset _ _ | .xstopAssertion | .xstopRelease
  | .countChange _ _ | .indexPulse _ | .refLevelChange _ _ | .pairBroken _ _ | .pairIntact _ _ | .transferTimeout
  | .fetchEnd _ _ | .verificationRereadEnd _ _ | .closureRereadEnd _ _ | .outcomeWriteEnd _ _ | .deliveryRereadEnd _ _
  | .deliveryWriteEnd _ _ | .pageWriteEnd _ | .setupChunkEnd _ => false

/-- R124, R129, R136, R137: the events that give a drive stage its output mode and its reversal pause: the two resets, and the
end of a setup chunk, which may commit a setup. -/
def Instr.SetsDriveStage (c : Instr) : Prop :=
  (∃ pins refs, c = .pinReset pins refs) ∨ (∃ index argument, c = .resetPart index argument) ∨ ∃ a, c = .setupChunkEnd a

end Sys2Proof

namespace Sys2Proof.Machine

/-! ### The drive lines -/

/-- R124 to R127: what the lines of one drive stage never do: RAPID without run (R126), both run lines in SPLIT mode
(R125), a line in mode NONE other than a direction line that waits for its hold time (R127). -/
structure DriveStage.Sound (v : DriveStage) : Prop where
  rapid_runs : v.running = none → v.rapid = false
  split_one : v.mode = .split → ¬ (v.runFwd = true ∧ v.runRev = true)
  none_runs : v.mode = .none → v.runFwd = false
  none_direction : v.mode = .none → v.runRev = true → v.dirDrop = true
  drop_stopped : v.dirDrop = true → v.runFwd = false
  drop_holds : v.dirDrop = true → v.dirHold = true

/-- R77, R125, R126, R128, R132: an active run line has a request for its direction, with RAPID as requested, a RUNNING
controller, XSTOP_N high, no lockout and no reversal pause needed, and its direction is the last driven direction. -/
def State.LineJustified (s : State) (n : AxisId) : Prop :=
  ∀ d, (s.axis n).drive.running = some d →
    (s.axis n).seq.request = some (d, (s.axis n).drive.rapid) ∧ s.cmd.controller = .running ∧ s.xstopHigh = true
      ∧ (s.axis n).drive.lockout = false ∧ (s.axis n).drive.needsPause d = false ∧ (s.axis n).drive.lastDir = some d

/-- R129: the rest start is NONE exactly while the run line is active or the standstill condition does not hold. -/
def State.RestTimed (s : State) (n : AxisId) : Prop :=
  (s.axis n).drive.restStart = none ↔ (s.axis n).drive.running.isSome = true ∨ s.standsStill n = false

/-- The drive lines of every axis are sound, an active one has its reason, and the rest start is timed. -/
def State.LinesSafe (s : State) : Prop := ∀ n, (s.axis n).drive.Sound ∧ s.LineJustified n ∧ s.RestTimed n

/-- R129: the rest start of a drive stage lies its reversal pause back at the reading `now`. -/
def DriveStage.Rested (v : DriveStage) (now : Word) : Prop := ∃ r, v.restStart = some r ∧ v.pause ≤ (now - r).toNat

/-- R125, R128 to R130: what a drive stage carries through one event, from v before it to w after it, where `now` is the reading
after it; `elapsed` says that its reversal pause elapses in the event, `kept` that no load and no RESET_PART is taken in it. A pin
reset carries nothing. -/
structure DriveStage.Carries (elapsed kept : Prop) (now : Word) (v w : DriveStage) : Prop where
  /-- R125, R129, R130: a run line becomes active from a rest, and against the last driven direction only with the reversal
  clear flag set, or with the pause elapsed in the event; the flag is then clear. -/
  starts : ∀ d, w.running = some d → v.running ≠ some d →
    v.running = none ∧ w.lastDir = some d ∧ w.revClear = false
      ∧ (v.lastDir = some d.opposite → v.revClear = true ∨ elapsed)
  /-- R128: the last driven direction changes only with a run line that is active. -/
  last_kept : w.running = none → w.lastDir = v.lastDir
  /-- R129: a rest start goes on as it is, and a new one is the reading of its event. -/
  rest_reading : ∀ r, w.restStart = some r → v.restStart = some r ∨ v.restStart = none ∧ r = now
  /-- R129: the reversal clear flag becomes set only where the pause has passed since the rest start. -/
  flag_set : w.revClear = true → v.revClear = true ∨ w.Rested now
  /-- R129: with a pause of 0 ms it is set in the event that gives the rest start. -/
  flag_at_once : v.restStart = none → w.restStart.isSome = true → w.pause = 0 → w.revClear = true
  /-- R129: a set flag stays set until a run line becomes active, but for a load or a reset. -/
  flag_kept : kept → v.revClear = true → w.revClear = false → v.running = none ∧ w.running.isSome = true
  /-- R124, R129: the output mode and the reversal pause come with a load or a reset. -/
  set_kept : kept → w.mode = v.mode ∧ w.pause = v.pause

/-! ### The order of the records held (R3, R6, R7) -/

/-- The number of records ahead of the i-th staged record: one more where there is an executing record (R6). -/
def AxisUnit.executingCount (u : AxisUnit) : Nat := if u.seq.executing.isSome then 1 else 0

/-- R3, R6, R7: for a route of `len` slots, the executing record carries E and came from slot C, the staged records follow
it in stamp and slot, at most two, and the fetch target is the next after them. -/
structure AxisUnit.Ordered (len : Nat) (u : AxisUnit) : Prop where
  cursor_in : u.route.cursor < len
  staged_two : u.route.staging.length ≤ 2
  target_room : u.route.target.isSome = true → u.route.staging.length ≤ 1
  executing_is : ∀ x, u.seq.executing = some x → x.record.stamp = u.route.expected ∧ x.slot = u.route.cursor
  staged_is : ∀ i g, u.route.staging[i]? = some g →
    g.record.stamp = u.route.expected + BitVec.ofNat 16 (i + u.executingCount)
      ∧ g.slot = (u.route.cursor + (i + u.executingCount)) % len
  target_is : ∀ t, u.route.target = some t →
    t.stamp = u.route.expected + BitVec.ofNat 16 u.ahead ∧ t.slot = (u.route.cursor + u.ahead) % len

/-- R165: the route of every enabled axis of the setup in force has 4 … 64 slots. -/
def State.RoutesSized (s : State) : Prop := ∀ n c, s.sectionOf n = some c → 4 ≤ c.length ∧ c.length ≤ 64

/-- The records that every axis holds are in stamp order. -/
def State.RecordsOrdered (s : State) : Prop := s.RoutesSized ∧ ∀ n, (s.axis n).Ordered (s.routeLength n)

/-! ### The shape of an axis (table 3.1, R54, R55, R60, R150) -/

/-- The leg of a move in existence, and the search, that an executing record has. -/
def KindState.moving : KindState → Bool
  | .move m => m.leg.isSome
  | .search _ | .dwell _ | .await _ | .verifying | .begun => false

def KindState.searching : KindState → Bool
  | .search _ => true
  | .move _ | .dwell _ | .await _ | .verifying | .begun => false

/-- A move without leg and plan (R63). -/
def KindState.legless : KindState → Bool
  | .move m => m.leg.isNone && m.plan.isEmpty
  | .search _ | .dwell _ | .await _ | .verifying | .begun => false

def KindState.dwells : KindState → Bool
  | .dwell _ => true
  | .search _ | .move _ | .await _ | .verifying | .begun => false

def KindState.awaits : KindState → Bool
  | .await _ => true
  | .search _ | .move _ | .dwell _ | .verifying | .begun => false

/-- Table 3.1: the state of a kind that an axis state's executing record has. -/
def AxisState.allows (st : AxisState) (w : KindState) : Bool :=
  match st with
  | .rapid | .creep => w.moving
  | .coasting | .pausing => w.moving || w.searching
  | .seeking => w.searching
  | .dwelling => w.dwells
  | .awaiting => w.awaits
  | .stopping => w.legless || w.searching
  | .idle => w == .verifying
  | .dormant | .held => false

/-- Table 3.1: the states whose axis has an executing record that has started. -/
def AxisState.busy : AxisState → Bool
  | .dormant | .idle | .held => false
  | .rapid | .creep | .coasting | .pausing | .seeking | .dwelling | .awaiting | .stopping => true

/-- Table 3.1, R15, R24, R55, R60, R77, R110, R150, R151: what an axis holds in each of its states. The notices of its position
unit wait for an IDLE or HELD axis without executing record, and only until its page is composed; an axis with a broken pair is
not in service: DORMANT, STOPPING, HELD, or IDLE with a notice that waits for it. -/
structure AxisUnit.Shaped (u : AxisUnit) : Prop where
  executing_fits : ∀ x, u.seq.executing = some x → u.seq.state.allows x.work = true
  busy_executes : u.seq.state.busy = true → u.seq.executing.isSome = true
  closure_waits : u.seq.executing.isSome = true → u.route.closure = none
  latch_held : u.seq.latch.isSome = true → u.seq.state = .held ∧ u.route.closure = none
  delivery_latched : u.seq.delivery.isSome = true → u.seq.latch.isSome = true
  held_cause : u.seq.state = .held → u.seq.heldCause.isSome = true
  cause_held : u.seq.heldCause.isSome = true → u.seq.state = .held ∨ u.seq.state = .stopping
  later_caused : u.seq.later ≠ 0 → u.seq.heldCause.isSome = true
  stopped_discards : u.seq.state = .held ∨ u.seq.state = .stopping ∨ u.seq.state = .dormant →
    u.route.staging = [] ∧ u.route.target = none
  dormant_closure : u.seq.state = .dormant → u.route.closure = none
  handed_waits : u.seq.handed ≠ [] →
    (u.seq.state = .idle ∨ u.seq.state = .held) ∧ u.seq.executing = none ∧ u.page.due = true
  lost_rests : u.pos.repeatsLoss = true →
    u.seq.state = .dormant ∨ u.seq.state = .stopping ∨ u.seq.state = .held ∨ u.seq.state = .idle ∧ u.seq.handed ≠ []

/-- Every axis has the shape of its state; an axis without a section in the setup in force is DORMANT, and a section is
there for every other axis. -/
def State.AxesShaped (s : State) : Prop :=
  ∀ n, (s.axis n).Shaped ∧ ((s.axis n).seq.state = .dormant ↔ s.sectionOf n = none)

/-! ### The command unit (R156, R157, R158, R171, R191) -/

/-- R156, R157, R191: LOADING and HALTING each have their command pending throughout, with the load address, the shadow
or the settled set it needs; a setup is in force exactly where the controller state says; a delivery has its
RELEASE_AXIS pending. -/
structure State.CommandSound (s : State) : Prop where
  loading_pending : s.cmd.controller = .loading → s.cmd.result = .pending ∧ s.cmd.lastCode = 0x01
  loading_holds : s.cmd.controller = .loading ↔ s.shadow.isSome = true
  loading_address : s.cmd.controller = .loading ↔ s.cmd.loadAddress.isSome = true
  loading_origin : s.cmd.controller = .loading ↔ s.cmd.origin.isSome = true
  halting_pending : s.cmd.controller = .halting → s.cmd.result = .pending ∧ s.cmd.lastCode = 0x03
  halting_holds : s.cmd.controller = .halting ↔ s.cmd.halt.isSome = true
  setup_there : s.setup = none ↔ s.cmd.controller = .blank ∨ s.cmd.controller = .loading ∧ s.cmd.origin = some .blank
  pending_index : s.cmd.result = .pending ↔ s.cmd.pendingIndex.isSome = true
  delivery_pending : ∀ n, (s.axis n).seq.delivery.isSome = true →
    s.cmd.result = .pending ∧ s.cmd.lastCode = 0x11 ∧ s.cmd.pendingIndex = some n.toIndex

/-! ### Which axis states a controller state allows (R77, R156, R172) -/

/-- R77, R172: outside RUNNING no axis executes but one in STOPPING, a STOPPING axis is there in RUNNING and HALTING
only, and an axis that has been told settled, or counted settled, for a halt is not STOPPING. -/
structure State.AxesAllowed (s : State) : Prop where
  only_running : ∀ n, s.cmd.controller ≠ .running →
    (s.axis n).seq.state = .dormant ∨ (s.axis n).seq.state = .idle ∨ (s.axis n).seq.state = .held
      ∨ (s.axis n).seq.state = .stopping
  none_executes : ∀ n, s.cmd.controller ≠ .running → (s.axis n).seq.state ≠ .stopping →
    (s.axis n).seq.executing = none
  stopping_ends : ∀ n, (s.axis n).seq.state = .stopping → s.cmd.controller = .running ∨ s.cmd.controller = .halting
  settled_rests : ∀ h n, s.cmd.halt = some h →
    h.settled.get n = true ∨ h.told.get n = true ∨ true ∈ h.reports.get n → (s.axis n).seq.state ≠ .stopping

/-! ### What an event of one axis leaves alone -/

/-- What an event of one axis leaves of another axis: everything but the announcements that a waiting sequencer has been
handed and not yet taken (R19, R48). -/
structure AxisUnit.Untouched (u v : AxisUnit) : Prop where
  route : v.route = u.route
  pos : v.pos = u.pos
  drive : v.drive = u.drive
  page : v.page = u.page
  seq : v.seq = { u.seq with executing := v.seq.executing }
  heard : v.seq.executing = u.seq.executing ∨
    ∃ x a es, u.seq.executing = some x ∧ x.work = .await a
      ∧ v.seq.executing = some { x with work := .await { a with announced := a.announced ++ es } }

/-- The result of the last command, its detail and the pending command are as they were. -/
def State.KeepsRecord (s t : State) : Prop :=
  t.cmd.result = s.cmd.result ∧ t.cmd.detail = s.cmd.detail ∧ t.cmd.detailIndex = s.cmd.detailIndex
    ∧ t.cmd.pendingIndex = s.cmd.pendingIndex

/-- R73: the pending ABORT_AXIS of axis n is complete. -/
def State.CompletesAbort (n : AxisId) (s t : State) : Prop :=
  (s.cmd.result = .pending ∧ s.cmd.lastCode = 0x10 ∧ s.cmd.pendingIndex = some n.toIndex)
    ∧ t.cmd.result = .done ∧ t.cmd.detail = 0 ∧ t.cmd.detailIndex = 0 ∧ t.cmd.pendingIndex = none
    ∧ t.attn &&& commandAttnBit = commandAttnBit

/-- What an event of axis n leaves alone: the other axes, the controller state, the time base, the apertures, the setup, the
port but for the request of route unit n, the registers but for the command record of an ABORT_AXIS of the axis that it
completes, and the ATTN bits of the axis and of the command. -/
structure State.Frame (n : AxisId) (s t : State) : Prop where
  others : ∀ m, m ≠ n → AxisUnit.Untouched (s.axis m) (t.axis m)
  timeBase : t.timeBase = s.timeBase
  controller : t.cmd.controller = s.cmd.controller
  origin : t.cmd.origin = s.cmd.origin
  loadAddress : t.cmd.loadAddress = s.cmd.loadAddress
  setupAddr : t.cmd.setupAddr = s.cmd.setupAddr
  lastCode : t.cmd.lastCode = s.cmd.lastCode
  overrun : t.cmd.overrun = s.cmd.overrun
  record : State.KeepsRecord s t ∨ State.CompletesAbort n s t
  halt : t.cmd.halt = s.cmd.halt ∨
    ∃ h k, s.cmd.halt = some h ∧ t.cmd.halt = some k ∧ k.settled = h.settled
      ∧ ∀ m, m ≠ n → k.told.get m = h.told.get m ∧ k.reports.get m = h.reports.get m
  setup : t.setup = s.setup
  shadow : t.shadow = s.shadow
  apertureOpen : t.apertureOpen = s.apertureOpen
  access : t.port.access = s.port.access
  pointer : t.port.pointer = s.port.pointer
  chunk : t.port.chunk = s.port.chunk
  waiting : ∀ m, m ≠ n → t.port.waiting.get m = s.port.waiting.get m
  xstopHigh : t.xstopHigh = s.xstopHigh
  reporter : t.reporter = s.reporter
  attn : ∃ b, t.attn = s.attn ||| b ∧ b &&& ~~~(axisAttnBit n ||| commandAttnBit) = 0
  attnMask : t.attnMask = s.attnMask
  resetLow : t.resetLow = s.resetLow
  freeCount : t.freeCount = s.freeCount
  pending : t.pending = s.pending

/-- What the operations of axis n leave of the axis's own blocks, before its drive stage follows: the drive stage but for
the stop lockout that a request going inactive clears, the notices handed, the REF level handed, and of the position unit
all but the raw count, the zero shift, the stall watch, the span measurement and the referenced flag. -/
structure State.Calm (n : AxisId) (s t : State) : Prop extends State.Frame n s t where
  drive : ∃ b, (t.axis n).drive = { (s.axis n).drive with lockout := b }
  stopNotices : (t.axis n).seq.stopNotices = (s.axis n).seq.stopNotices
  refHanded : (t.axis n).seq.refHanded = (s.axis n).seq.refHanded
  pos : ∃ raw shift stall span ref, (t.axis n).pos =
    { (s.axis n).pos with raw := raw, shift := shift, stallStart := stall, span := span, referenced := ref }

/-! ### The position units and the memory port -/

/-- R81, R103, R106, R107: a position unit with counting ON on a rotary axis has a modulus of 16 … 2^30 and a raw count
of 0 … M − 1; a settle time and a stall time in force are not 0; a measurement runs only while counting is ON. -/
structure PositionUnit.Sound (p : PositionUnit) : Prop where
  modulus_range : ∀ e m, p.counting = some ⟨e, .rotary m⟩ → 16 ≤ m ∧ m ≤ 1073741824 ∧ p.raw.toNat < m
  settle_positive : ∀ q, p.params = some q → 1 ≤ q.settle ∧ 1 ≤ q.stall
  params_counting : p.params.isSome = true → p.counting.isSome = true
  span_counting : p.span.isSome = true → p.counting.isSome = true

/-- Every position unit is sound, and a rotary section of the setup in force has a modulus of 16 … 2^30 (R164). -/
def State.PositionsSound (s : State) : Prop := ∀ n, (s.axis n).pos.Sound

/-- R1, R140: a route unit's waiting request that is a write carries the three words of an outcome write in their transfer
order, and a read carries none. -/
def State.PortSound (s : State) : Prop :=
  ∀ n q, s.port.waiting.get n = some q →
    (q.kind.isWrite = false → q.data = []) ∧ (q.kind.isWrite = true → q.data.map Prod.fst = [4, 8, 0])

/-! ### The command record -/

/-- R191, R193: the command unit after a write whose result is final in its event. -/
def CommandUnit.final (c : CommandUnit) (code : Byte) (r : Result) : CommandUnit :=
  { c with overrun := false, lastCode := code, result := r, detail := 0, detailIndex := 0, pendingIndex := none }

/-- R191: the command unit after an accepted write whose result stays PENDING. -/
def CommandUnit.pended (c : CommandUnit) (code index : Byte) : CommandUnit :=
  { c with
    overrun := false, lastCode := code, result := .pending, detail := 0, detailIndex := 0, pendingIndex := some index }

/-- R192, R193: a write whose result is final in its event and that changes nothing else: the command record and ATTN
bit 4. -/
def State.afterFinal (s : State) (code : Byte) (r : Result) : State :=
  { s with cmd := s.cmd.final code r, attn := s.attn ||| 0x10 }

/-! ### What a sequencer does with a cause (R60 to R68) -/

/-- R19, R48: the stamp E of axis n has been announced to every other axis that waits for axis n. -/
def State.Announced (n : AxisId) (s t : State) : Prop :=
  ∀ m y a, m ≠ n → (s.axis m).seq.executing = some y → y.work = .await a → a.axis = n →
    (t.axis m).seq.executing =
      some { y with work := .await { a with announced := a.announced ++ [(s.axis n).route.expected] } }

/-- R19, R33 to R35: the record x of axis n is closed with outcome o at the time base reading at': the closure entry, E and
C one step on, no executing record, and the old E announced to every axis that waits for axis n. -/
structure State.Closed (n : AxisId) (x : Executing) (o : Outcome) (at' : Word) (s t : State) : Prop where
  entry : (t.axis n).route.closure = some
    ⟨{ slot := x.slot, record := x.record, outcome := o, legByte := legByte x.corrections x.legs,
       finalPos := (t.axis n).pos.reported, elapsed := at' - x.startTime }, .reread⟩
  expected : (t.axis n).route.expected = (s.axis n).route.expected + 1
  cursor : (t.axis n).route.cursor = ((s.axis n).route.cursor + 1) % s.routeLength n
  cleared : (t.axis n).seq.executing = none ∧ (t.axis n).seq.stoppingOutcome = none ∧ (t.axis n).seq.moveExpiry = none
  announced : State.Announced n s t

/-- R24, R60: axis n is HELD with cause k, its staging discarded, its page due, its ATTN bit set. -/
structure State.HeldBy (n : AxisId) (k : FaultKind) (t : State) : Prop where
  state : (t.axis n).seq.state = .held
  cause : (t.axis n).seq.heldCause = some k
  discarded : (t.axis n).route.staging = [] ∧ (t.axis n).route.target = none ∧ (t.axis n).route.dry = false
    ∧ (t.axis n).route.noticeLatch = false ∧ (t.axis n).route.patrolStart = none
  attended : t.attn &&& axisAttnBit n = axisAttnBit n

/-- R24, R63: axis n has entered STOPPING with outcome o and held cause k; the executing record stays, without leg and
plan. -/
structure State.StopsWith (n : AxisId) (k : Option FaultKind) (o : Outcome) (s t : State) : Prop where
  state : (t.axis n).seq.state = .stopping
  outcome : (t.axis n).seq.stoppingOutcome = some o
  cause : (t.axis n).seq.heldCause = k
  executing : (t.axis n).seq.executing = (s.axis n).seq.executing.map fun x => { x with work := x.work.stopped }
  timer : (t.axis n).seq.moveExpiry = none
  discarded : (t.axis n).route.staging = [] ∧ (t.axis n).route.target = none ∧ (t.axis n).route.dry = false
  records : (t.axis n).route.expected = (s.axis n).route.expected ∧ (t.axis n).route.cursor = (s.axis n).route.cursor
  page : (t.axis n).page.due = true

/-- R61, R68: kind k has joined the later-fault set of an axis that keeps its state and its held cause. -/
structure State.JoinsLater (n : AxisId) (k : FaultKind) (s t : State) : Prop where
  state : (t.axis n).seq.state = (s.axis n).seq.state
  cause : (t.axis n).seq.heldCause = (s.axis n).seq.heldCause
  later : (t.axis n).seq.later = (s.axis n).seq.later ||| k.bit
  attended : t.attn &&& axisAttnBit n = axisAttnBit n

/-- R63 to R68, the summary of overtaking causes by state: what axis n does with cause k, with outcome o for a record that
the cause overtakes. In a motion state at standstill the end of STOPPING is taken in the same event (R64). -/
def State.CauseTaken (n : AxisId) (k : FaultKind) (o : Outcome) (s t : State) : Prop :=
  let q := (s.axis n).seq
  match q.state with
  | .dormant => (t.axis n).seq.state = .dormant ∧ (t.axis n).seq.heldCause = q.heldCause
  | .idle =>
    State.HeldBy n k t ∧ (t.axis n).seq.executing = none ∧ (t.axis n).page.due = true
      ∧ (t.axis n).route.expected = (s.axis n).route.expected ∧ (t.axis n).route.closure = (s.axis n).route.closure
  | .rapid | .creep | .coasting | .pausing | .seeking =>
    if s.standsStill n then
      State.HeldBy n k t ∧ (t.axis n).page.due = true
        ∧ ∀ x, q.executing = some x → State.Closed n x o s.timeBase s t
    else State.StopsWith n (some k) o s t
  | .dwelling | .awaiting =>
    State.HeldBy n k t ∧ (t.axis n).page.due = true
      ∧ ∀ x, q.executing = some x → State.Closed n x o s.timeBase s t
  | .stopping =>
    match q.heldCause with
    | none =>
      (t.axis n).seq.state = .stopping ∧ (t.axis n).seq.heldCause = some k ∧ (t.axis n).seq.later = q.later
        ∧ (t.axis n).seq.stoppingOutcome = q.stoppingOutcome
    | some _ => State.JoinsLater n k s t ∧ (t.axis n).seq.stoppingOutcome = q.stoppingOutcome
  | .held => State.JoinsLater n k s t

/-- R67, R68: what an IDLE or HELD axis n does with cause k. -/
structure State.RestTakes (n : AxisId) (k : FaultKind) (s t : State) : Prop where
  held : (s.axis n).seq.state = .idle → State.HeldBy n k t
  joined : (s.axis n).seq.state = .held → State.JoinsLater n k s t

/-- R105, R110: what axis n does with a notice of its position unit: it takes the cause, unless earlier notices wait for its
sequencer: then the notice waits behind them. -/
structure State.UnitNoticeTaken (n : AxisId) (k : FaultKind) (o : Outcome) (s t : State) : Prop where
  taken : (s.axis n).seq.handed = [] → State.CauseTaken n k o s t
  waits : (s.axis n).seq.handed ≠ [] → (t.axis n).seq = { (s.axis n).seq with handed := (s.axis n).seq.handed ++ [⟨k, o⟩] }

/-- R105, R110, R67, R68: axis n, IDLE or HELD, has taken the notices of its position unit that waited for it, in the order
handed: an IDLE axis goes HELD with the first, and every further one joins the later-fault set. -/
structure State.HandedTaken (n : AxisId) (s t : State) : Prop where
  none_waits : (t.axis n).seq.handed = []
  state : (t.axis n).seq.state = .held
  cause : ∀ h rest, (s.axis n).seq.handed = h :: rest → (s.axis n).seq.state = .idle → (t.axis n).seq.heldCause = some h.kind
    ∧ (t.axis n).seq.later = rest.foldl (fun set g => set ||| g.kind.bit) (s.axis n).seq.later
  discarded : (s.axis n).seq.state = .idle → (t.axis n).route.staging = [] ∧ (t.axis n).route.target = none
    ∧ (t.axis n).route.dry = false ∧ (t.axis n).page.due = true
  joined : (s.axis n).seq.state = .held → (t.axis n).seq.heldCause = (s.axis n).seq.heldCause
    ∧ (t.axis n).seq.later = (s.axis n).seq.handed.foldl (fun set g => set ||| g.kind.bit) (s.axis n).seq.later
  attended : t.attn &&& axisAttnBit n = axisAttnBit n
  records : (t.axis n).seq.executing = none ∧ (t.axis n).route.expected = (s.axis n).route.expected
    ∧ (t.axis n).route.cursor = (s.axis n).route.cursor ∧ (t.axis n).route.closure = (s.axis n).route.closure

/-- R106: the standstill of axis n is due: its settle time has passed since the last count change, and it has not been
reported. -/
def State.RestDue (s : State) (n : AxisId) : Prop :=
  ∃ p, (s.axis n).pos.params = some p ∧ (s.axis n).pos.standstill = false
    ∧ p.settle ≤ (s.timeBase - (s.axis n).pos.lastChange).toNat

/-! ### What a millisecond ends (R89, R106, R129, R130) -/

/-- R129: axis n, its run line inactive and without a rest start, stands still once the next millisecond has passed. -/
def State.RestBegins (s : State) (n : AxisId) : Prop :=
  (s.axis n).drive.running = none ∧ (s.axis n).drive.restStart = none
    ∧ ({ s with timeBase := s.timeBase + 1 } : State).standsStill n = true

/-- R129, R130: driving axis n in direction d needs no pause once the next millisecond has passed: it needs none now, or its
pause of 0 ms ends at the standstill that the millisecond brings. -/
def State.TickClears (s : State) (n : AxisId) (d : Direction) : Prop :=
  (s.axis n).drive.needsPause d = false ∨ (s.axis n).drive.pause = 0 ∧ s.RestBegins n

/-- R89, R130: the millisecond that passes ends the pause of the PAUSING axis n. -/
def State.TickEndsPause (s : State) (n : AxisId) : Prop :=
  (s.axis n).seq.state = .pausing ∧ ∃ d, (s.axis n).seq.motionDirection = some d ∧ s.TickClears n d

/-! ### What starts at the end of an event (R7, R8, R15, R130) -/

/-- R130: an axis that is PAUSING at the end of this event still needs its pause. -/
def State.PauseHolds (s : State) (n : AxisId) : Prop := ((s.evalDrive n).axis n).pauseOver = false

/-- R15, R110: axis n takes the head of its staging queue; no notice waits for its sequencer. -/
def State.TakesHead (s : State) (n : AxisId) : Prop :=
  (s.axis n).seq.state = .idle ∧ (s.axis n).seq.handed = [] ∧ s.cmd.controller = .running ∧ (s.axis n).seq.executing = none
    ∧ (s.axis n).route.closure = none ∧ (s.axis n).route.staging ≠ []

/-- R7, R8: a fetch of axis n starts in an event that leaves DRY clear: the fetch conditions hold, and neither closure work
nor a verification comes before it. -/
def State.FetchStarts (s : State) (n : AxisId) : Prop :=
  s.cmd.controller = .running ∧ (s.axis n).seq.state ≠ .held ∧ (s.axis n).seq.state ≠ .stopping
    ∧ (s.axis n).seq.state ≠ .dormant ∧ (s.axis n).route.staging.length < 2 ∧ s.routeFree n = true
    ∧ (s.axis n).route.closure = none ∧ (s.axis n).seq.verifying = false

/-! ### Checks in their order (R29 to R31, R160 to R166) -/

/-- The first failure of a list of checks: a check fails whose condition holds, and every check before it passes. -/
def FirstFailure {α : Type} (checks : List (Prop × α)) (x : α) : Prop :=
  ∃ before p after, checks = before ++ (p, x) :: after ∧ p ∧ ∀ q ∈ before, ¬ q.1

/-- R51: the new value of a RETUNE is accepted for the field that argument A names. -/
def RetuneAccepted (p : Profile) (a : Int) (b : Nat) : Prop :=
  a = 0 ∧ b ≤ 2147483647 ∧ p.cut ≤ b ∨ a = 1 ∧ b ≤ p.slow ∨ a = 2 ∧ b ≤ 2147483647 ∨ a = 3 ∧ b ≤ 3

/-- R30: what fails step 3, by kind byte. -/
def State.ArgumentsBad (s : State) (n : AxisId) (c : Section) (r : IssueRegion) : Prop :=
  r.kind = 0x01 ∧ c.kind ≠ .linear ∧ r.directionField = 3
    ∨ r.kind = 0x02 ∧ r.argA = -2147483648
    ∨ r.kind = 0x03 ∧ (2 < r.selector.toNat
        ∨ r.selector.toNat < 2 ∧ (r.directionField = 0 ∨ r.directionField = 3 ∨ r.argB = 0 ∨ 2147483647 < r.argB))
    ∨ r.kind = 0x05 ∧ (r.argA < 1 ∨ 65535 < r.argA)
    ∨ r.kind = 0x06 ∧ (3 < r.selector.toNat ∨ r.selector.toNat = n.toNat
        ∨ (∃ k : AxisId, r.selector.toNat = k.toNat ∧ (s.axis k).seq.state = .dormant) ∨ 65535 < r.argB)
    ∨ r.kind = 0x07 ∧ ¬ RetuneAccepted (s.profile r.selector) r.argA r.argB

/-- R31: what fails step 5 of a move with target t from the reported position p on a linear axis: the target, or the take-up
point of the first plan, lies outside the limits. -/
def Section.OutOfLimits (c : Section) (t p : Int) (window : Nat) : Prop :=
  t < c.lower ∨ c.upper < t
    ∨ ∃ (side d : Direction), c.side = some side ∧ 0 < c.slack ∧ (window : Int) < |t - p|
        ∧ (d = .forward ∧ p < t ∨ d = .reverse ∧ t < p) ∧ d ≠ side
        ∧ (t + d.sign * (c.slack : Int) < c.lower ∨ c.upper < t + d.sign * (c.slack : Int))

/-- R31: what fails step 5. -/
def State.RangeBad (s : State) (n : AxisId) (c : Section) (r : IssueRegion) : Prop :=
  match c.kind with
  | .linear =>
    r.kind = 0x01 ∧ c.OutOfLimits r.argA (s.axis n).pos.reportedInt (s.profile r.selector).window
      ∨ r.kind = 0x02 ∧ c.OutOfLimits ((s.axis n).pos.reportedInt + r.argA) (s.axis n).pos.reportedInt
          (s.profile r.selector).window
  | .rotary m => r.kind = 0x01 ∧ (r.argA < 0 ∨ (m : Int) ≤ r.argA)

/-- R29: the five checks of a record in their order, each by what fails it. -/
def State.recordChecks (s : State) (n : AxisId) (c : Section) (r : IssueRegion) : List (Prop × Outcome) :=
  [ (r.kind.toNat < 1 ∨ 7 < r.kind.toNat, .rejectedKind),
    ((r.kind = 0x01 ∨ r.kind = 0x02 ∨ r.kind = 0x07) ∧ 7 < r.selector.toNat, .rejectedProfile),
    (s.ArgumentsBad n c r, .rejectedArgument),
    ((r.kind = 0x01 ∨ r.kind = 0x02) ∧ (s.axis n).pos.referenced = false, .rejectedUnreferenced),
    (s.RangeBad n c r, .rejectedRange) ]

/-- R162: what fails aperture entry i of the block. -/
def EntryBad (ws : List Word) (i : Nat) : Prop :=
  let base := fun j => (blockWord ws (0x020 + 16 * j)).toNat
  let limit := fun j => (blockWord ws (0x024 + 16 * j)).toNat
  let offset := (blockWord ws (0x028 + 16 * i)).toNat
  let rights := fun j => (blockByte ws (0x02C + 16 * j)).toNat
  2 < rights i
    ∨ rights i ≠ 0
      ∧ (base i % 32 ≠ 0 ∨ limit i < base i ∨ (limit i + 1) % 32 ≠ 0 ∨ offset % 32 ≠ 0
        ∨ 4294967295 < limit i + offset ∨ 1 < (blockByte ws (0x02D + 16 * i)).toNat
        ∨ ∃ j a, j < i ∧ (rights j = 1 ∨ rights j = 2) ∧ base i ≤ a ∧ a ≤ limit i ∧ base j ≤ a ∧ a ≤ limit j)

/-- R163: what fails profile i of the block. -/
def ProfileBad (ws : List Word) (i : Nat) : Prop :=
  let slow := (blockWord ws (0x080 + 16 * i)).toNat
  2147483647 < slow ∨ slow < (blockWord ws (0x084 + 16 * i)).toNat
    ∨ 2147483647 < (blockWord ws (0x088 + 16 * i)).toNat ∨ 3 < (blockByte ws (0x08C + 16 * i)).toNat

/-- R164: what fails the axis section at offset o of the block. -/
def SectionBad (ws : List Word) (o : Nat) : Prop :=
  1 < (blockByte ws o).toNat
    ∨ ((blockByte ws (o + 0x01)).toNat ≠ 1 ∧ (blockByte ws (o + 0x01)).toNat ≠ 2 ∧ (blockByte ws (o + 0x01)).toNat ≠ 4)
    ∨ 1 < (blockByte ws (o + 0x02)).toNat ∨ 2 < (blockByte ws (o + 0x03)).toNat ∨ 1 < (blockByte ws (o + 0x04)).toNat
    ∨ (blockByte ws (o + 0x05)).toNat = 0
    ∨ (blockHalf ws (o + 0x08)).toNat < 10 ∨ 10000 < (blockHalf ws (o + 0x08)).toNat
    ∨ 1000 < (blockHalf ws (o + 0x0A)).toNat
    ∨ (blockByte ws o).toNat = 1
      ∧ ((blockWord ws (o + 0x10)).toNat < 16 ∨ 1073741824 < (blockWord ws (o + 0x10)).toNat)
    ∨ (blockByte ws o).toNat = 0 ∧ (blockWord ws (o + 0x18)).toInt < (blockWord ws (o + 0x14)).toInt

/-- The section of axis n starts at 0x100 + 64·n (R203). -/
def sectionAt (n : AxisId) : Nat := 0x100 + 64 * n.toNat

/-- R165: address a lies in the route of axis n of the block. -/
def InRoute (ws : List Word) (n : AxisId) (a : Nat) : Prop :=
  let base := (blockWord ws (sectionAt n + 0x20)).toNat
  base ≤ a ∧ a < base + 32 * (blockByte ws (sectionAt n + 0x24)).toNat

/-- R166: address a lies in the status page of axis n of the block. -/
def InPage (ws : List Word) (n : AxisId) (a : Nat) : Prop :=
  let page := (blockWord ws (sectionAt n + 0x28)).toNat
  page ≤ a ∧ a < page + 64

/-- R165, R166: the addresses from `first` on, `len` of them, lie within one entry of the block that is in use, READ_WRITE and
open at load. -/
def InOpenEntry (ws : List Word) (first len : Nat) : Prop :=
  ∃ i, i < 6 ∧ (blockByte ws (0x02C + 16 * i)).toNat = 2 ∧ (blockByte ws (0x02D + 16 * i)).toNat = 1
    ∧ (blockWord ws (0x020 + 16 * i)).toNat ≤ first ∧ first + len ≤ (blockWord ws (0x024 + 16 * i)).toNat + 1

/-- R161: the block enables axis n. -/
def Enabled (ws : List Word) (n : AxisId) : Prop := (blockByte ws 0x001).getLsbD n.toNat = true

/-- R165, R166: address a lies in the route or page of an enabled axis other than n. -/
def InOtherAxis (ws : List Word) (n : AxisId) (a : Nat) : Prop :=
  ∃ m, m ≠ n ∧ Enabled ws m ∧ (InRoute ws m a ∨ InPage ws m a)

/-- R165: what fails the route of axis n of the block. -/
def RouteBad (ws : List Word) (n : AxisId) : Prop :=
  let base := (blockWord ws (sectionAt n + 0x20)).toNat
  let len := (blockByte ws (sectionAt n + 0x24)).toNat
  base % 32 ≠ 0 ∨ len < 4 ∨ 64 < len ∨ 4294967296 < base + 32 * len ∨ ¬ InOpenEntry ws base (32 * len)
    ∨ ∃ a, InRoute ws n a ∧ (InPage ws n a ∨ InOtherAxis ws n a)

/-- R166: what fails the status page of axis n of the block. -/
def PageBad (ws : List Word) (n : AxisId) : Prop :=
  let page := (blockWord ws (sectionAt n + 0x28)).toNat
  page % 64 ≠ 0 ∨ 4294967296 < page + 64 ∨ ¬ InOpenEntry ws page 64 ∨ ∃ a, InPage ws n a ∧ InOtherAxis ws n a

/-- R160: the checks of the shadow in their order, each by what fails it, with its detail and index. -/
def shadowChecks (ws : List Word) : List (Prop × SetupDetail × Byte) :=
  [ ((blockByte ws 0x000).toNat ≠ 1, .badFormat, 0),
    (10000 < (blockHalf ws 0x004).toNat, .badFormat, 1),
    (60000 < (blockHalf ws 0x006).toNat, .badFormat, 2),
    (∀ n, ¬ Enabled ws n, .noAxis, 0) ]
  ++ (List.range 6).map (fun i => (EntryBad ws i, .badAperture, BitVec.ofNat 8 i))
  ++ (List.range 8).map (fun i => (ProfileBad ws i, .badProfile, BitVec.ofNat 8 i))
  ++ AxisId.list.flatMap fun n =>
      [ (Enabled ws n ∧ SectionBad ws (sectionAt n), .badAxis, n.toIndex),
        (Enabled ws n ∧ RouteBad ws n, .badRoute, n.toIndex),
        (Enabled ws n ∧ PageBad ws n, .badStatusPage, n.toIndex) ]

/-- The command that an accepted ABORT_AXIS leaves pending for axis n is complete (R73). -/
def State.AbortDone (s t : State) : Prop :=
  t.cmd.result = .done ∧ t.cmd.pendingIndex = none ∧ t.attn &&& 0x10 = 0x10 ∧ t.cmd.lastCode = s.cmd.lastCode

end Sys2Proof.Machine
end

