-- ==== Sys2Proof/Certificates/Slice0/Obligations.lean ====
section
/-! DEFINITION. The statements about the model: the step, what resets leave, what every step keeps, and for each command
and event of the part where it completes and what it does. -/

section

open Sys2Proof Sys2Proof.Machine

/-! ### The step -/

/-- A step takes the command at the front of the queue and executes it on the state with the queue's rest. -/
def Obligations.StepRunsFront : Prop :=
  ∀ (c : Instr) (rest : List Instr) (s : State),
    step { s with pending := c :: rest } = exec c { s with pending := rest }

/-- On an empty queue, with RESET_N high: the events that the part raises itself now are queued, and nothing else changes;
where there is none, one millisecond passes, in which only the drive stages follow, but for a PAUSING axis whose pause ends with
it. With RESET_N low nothing happens. What is queued is raised by the part, never a host write or an input. So far this is the
model's choice (log 1, 24, 25, 26). R89, R129, R130: where the millisecond makes an axis stand still (log 20) and its pause is
0 ms, the reversal clear flag is set in the step; a PAUSING sequencer takes pause elapsed in it and makes its drive decision, a
search goes on in SEEKING, and a SPLIT run line that was held back for the pause becomes active in it. -/
def Obligations.EmptyQueueIdles : Prop :=
  ∀ s : State, s.pending = [] →
    (s.resetLow = true → step s = .next s)
    ∧ (s.resetLow = false → s.ownEvents ≠ [] → step s = .next { s with pending := s.ownEvents })
    ∧ (∀ c ∈ s.ownEvents, c.raisedByPart = true)
    ∧ (s.resetLow = false → s.ownEvents = [] →
        ∃ t, step s = .next t
          ∧ (∀ n, ¬ s.TickEndsPause n →
              (t.axis n).route = (s.axis n).route ∧ (t.axis n).pos = (s.axis n).pos ∧ (t.axis n).page = (s.axis n).page
                ∧ (t.axis n).seq = { (s.axis n).seq with executing := (t.axis n).seq.executing }
                ∧ (t.axis n).drive.mode = (s.axis n).drive.mode ∧ (t.axis n).drive.lockout = (s.axis n).drive.lockout)
          ∧ ((∀ n, ¬ s.TickEndsPause n) →
              (∀ n, t.axis n = { s.axis n with drive := (t.axis n).drive })
                ∧ t = { s with timeBase := s.timeBase + 1, axes := t.axes })
          ∧ t = { s with
                  timeBase := s.timeBase + 1
                  axes := t.axes
                  cmd := { s.cmd with
                    result := t.cmd.result, detail := t.cmd.detail, detailIndex := t.cmd.detailIndex
                    pendingIndex := t.cmd.pendingIndex, halt := t.cmd.halt }
                  port.waiting := t.port.waiting
                  attn := t.attn }
          ∧ (∀ n, (s.axis n).drive.pause = 0 → s.RestBegins n → (t.axis n).drive.running = none →
              (t.axis n).drive.revClear = true ∧ (t.axis n).drive.restStart = some (s.timeBase + 1))
          ∧ (∀ n x m l, s.TickEndsPause n → (s.axis n).seq.executing = some x → x.work = .move m → m.leg = some l →
              (0 < l.togo →
                (t.axis n).seq.state = l.zone.1
                  ∧ (t.axis n).seq.executing = some
                      { x with
                        work := .move { m with leg := some { l with cutPoint := some l.zone.2 } }
                        legs := x.legs + 1 })
              ∧ (∀ c e, l.togo ≤ 0 → l.role = .final → s.sectionOf n = some c → t.standsStill n = true →
                  e = c.kind.distance (s.axis n).pos.reportedInt m.target →
                  (e ≤ (l.captured.window : Int) →
                    State.Closed n { x with legs := x.legs + 1 } .reached (s.timeBase + 1) s t ∧ (t.axis n).seq.state = .idle)
                  ∧ ((l.captured.window : Int) < e → l.captured.retries ≤ x.corrections →
                    State.Closed n { x with legs := x.legs + 1 } .missed (s.timeBase + 1) s t ∧ State.HeldBy n .missed t)))
          ∧ (∀ n x k, s.TickEndsPause n → (s.axis n).seq.executing = some x → x.work = .search k →
              k.motion = .search ∨ (s.axis n).seq.refHanded = true →
              (t.axis n).seq.state = .seeking ∧ (t.axis n).seq.executing = some { x with legs := x.legs + 1 })
          ∧ (∀ n d fast,
              ((s.axis n).seq.request = some (d, fast) ∧ s.TickClears n d
                ∨ s.TickEndsPause n ∧ (t.axis n).seq.request = some (d, fast)) →
              s.cmd.controller = .running → s.xstopHigh = true → (s.axis n).drive.lockout = false →
              (s.axis n).drive.running = none → (s.axis n).drive.mode = .split → (s.axis n).drive.dirDrop = false →
                (t.axis n).drive.running = some d ∧ (t.axis n).drive.rapid = fast ∧ (t.axis n).drive.lastDir = some d
                  ∧ (t.axis n).drive.revClear = false ∧ (t.axis n).drive.restStart = none))

/-- Every command and event that is one of the part completes in every state, and leaves the queue as it is; a term that is
none is refused by name with RESET_N high and ignored with it low, which is the model's choice (log 13). Every write to the
register port is one of the part's commands: a full write goes to the register at its offset, a word written to COMMAND has its
code in bits 0 to 7, its index in bits 8 to 15 and its argument in bits 16 to 31, and every other write has no effect. A read of
COMMAND shows the command record, a read of CONDITION the fields of their owners at the bits of 11.4, NOTICE and the offsets
without a register read as 0, and a read of one byte is that byte of the register. That a read at an offset that is no multiple
of 4 reads as 0 is the model's choice (log 36). -/
def Obligations.CommandsComplete : Prop :=
  (∀ (c : Instr) (s : State),
    (c.wellFormed = true → ∃ t, exec c s = .next t ∧ t.pending = s.pending)
      ∧ (c.wellFormed = false → s.resetLow = false → exec c s = .refused .notACommand)
      ∧ (c.wellFormed = false → s.resetLow = true → exec c s = .next s))
  ∧ (∀ (offset : BitVec 6) (lanes : BitVec 4) (value : Word), (Instr.ofWrite offset lanes value).wellFormed = true
      ∧ (lanes ≠ 0xF ∨ (offset ≠ 0x04 ∧ offset ≠ 0x08 ∧ offset ≠ 0x0C ∧ offset ≠ 0x10 ∧ offset ≠ 0x14) →
          Instr.ofWrite offset lanes value = .registerWriteNoEffect offset lanes value)
      ∧ Instr.ofWrite 0x04 0xF value = .setupAddr value ∧ Instr.ofWrite 0x0C 0xF value = .notice value
      ∧ Instr.ofWrite 0x10 0xF value = .attn value ∧ Instr.ofWrite 0x14 0xF value = .attnMask value)
  ∧ (∀ (code index : Byte) (argument : BitVec 16) (c : Instr),
      c = Instr.ofWrite 0x08 0xF (argument ++ index ++ code) →
        (code = 0x01 → c = .loadSetup index argument) ∧ (code = 0x02 → c = .start index argument)
        ∧ (code = 0x03 → c = .haltAll index argument) ∧ (code = 0x10 → c = .abortAxis index argument)
        ∧ (code = 0x11 → c = .releaseAxis index argument) ∧ (code = 0x12 → c = .clearReference index argument)
        ∧ (code = 0x13 → c = .snapshot index argument) ∧ (code = 0x20 → c = .closeAperture index argument)
        ∧ (code = 0x21 → c = .openAperture index argument) ∧ (code = 0x7F → c = .resetPart index argument)
        ∧ (code ∉ knownCommandCodes → c = .unknownCommandCode code index argument))
  ∧ (∀ (s : State) (command condition : Word), command = s.readRegister 0x08 → condition = s.readRegister 0x18 →
      command.extractLsb' 0 8 = s.cmd.lastCode ∧ command.extractLsb' 8 8 = s.cmd.result.code
        ∧ command.extractLsb' 16 8 = s.cmd.detail ∧ command.extractLsb' 24 8 = s.cmd.detailIndex
        ∧ condition.extractLsb' 0 3 = s.cmd.controller.code ∧ condition.getLsbD 3 = false
        ∧ condition.getLsbD 4 = s.xstopHigh ∧ condition.getLsbD 5 = s.cmd.overrun ∧ condition.extractLsb' 6 2 = 0
        ∧ (∀ n : AxisId, condition.getLsbD (8 + n.toNat) = (s.axis n).page.stale
            ∧ condition.getLsbD (12 + n.toNat) = (s.axis n).seq.latch.isSome)
        ∧ condition.extractLsb' 16 16 = 0
        ∧ (∀ offset : BitVec 6, offset = 0x0C ∨ offset.toNat % 4 = 0 ∧ 0x1C ≤ offset.toNat → s.readRegister offset = 0)
        ∧ (∀ offset : BitVec 6, offset.toNat % 4 ≠ 0 → s.readRegister offset = 0)
        ∧ ∀ (offset : BitVec 6) (k : Nat), s.readRegisterByte offset k = (s.readRegister offset).extractLsb' (8 * k) 8)
  ∧ ([.blank, .loading, .loaded, .running, .halting] : List ControllerState).map ControllerState.code = [0, 1, 2, 3, 4]
  ∧ ([.none, .pending, .done, .refusedState, .refusedArgument, .refusedLatched, .refusedAccess, .failedSetup] :
      List Result).map Result.code = [0, 1, 2, 3, 4, 5, 6, 7]
  ∧ ([.outside, .closed, .readOnly, .busError] : List Reason).map Reason.code = [1, 2, 3, 4]
  ∧ ([.busError, .badFormat, .badAperture, .badProfile, .badAxis, .badRoute, .badStatusPage, .noAxis] :
      List SetupDetail).map SetupDetail.code = [1, 2, 3, 4, 5, 6, 7, 8]

/-! ### Resets -/

/-- R174: what pin reset leaves, with the levels found, every drive line inactive; R188: while RESET_N is low, reads at the
offsets of the window, multiples of 4, give the values of this reset, and writes are ignored. The time base does not count before the release. (For the hold time that R127
lists, see log 34.) -/
def Obligations.PinResetValues : Prop :=
  ∀ (low high : Bool) (refs : PerAxis Bool) (s : State), ∃ t, exec (.pinReset ⟨low, high⟩ refs) s = .next t
    ∧ t.resetLow = low ∧ (∀ i, t.apertureOpen.get i = false)
    ∧ (low = true → (∀ c : Instr, c.isPortWrite = true → exec c t = .next t) ∧ (t.pending = [] → step t = .next t))
    ∧ t.cmd.controller = .blank ∧ t.cmd.pendingIndex = none ∧ t.cmd.origin = none ∧ t.cmd.halt = none
    ∧ t.cmd.loadAddress = none ∧ t.cmd.result = .none ∧ t.cmd.overrun = false ∧ t.cmd.setupAddr = 0
    ∧ t.setup = none ∧ t.shadow = none ∧ t.timeBase = 0 ∧ t.xstopHigh = high
    ∧ t.port.access = none ∧ t.port.chunk = none ∧ t.port.pointer = .reporter
    ∧ t.reporter.lastWritten = .a3 ∧ t.reporter.timerStart = none ∧ t.reporter.writing = none
    ∧ (∀ n, t.port.waiting.get n = none
        ∧ (t.axis n).route.cursor = 0 ∧ (t.axis n).route.expected = 0 ∧ (t.axis n).route.staging = []
        ∧ (t.axis n).route.target = none ∧ (t.axis n).route.closure = none ∧ (t.axis n).route.dry = false
        ∧ (t.axis n).route.noticeLatch = false ∧ (t.axis n).route.patrolStart = none
        ∧ (t.axis n).seq.state = .dormant ∧ (t.axis n).seq.executing = none ∧ (t.axis n).seq.stoppingOutcome = none
        ∧ (t.axis n).seq.heldCause = none ∧ (t.axis n).seq.later = 0 ∧ (t.axis n).seq.moveExpiry = none
        ∧ (t.axis n).seq.latch = none ∧ (t.axis n).seq.delivery = none
        ∧ (t.axis n).seq.stopNotices = 0 ∧ (t.axis n).seq.handed = []
        ∧ (t.axis n).pos.pairs = ⟨false, false, false⟩ ∧ (t.axis n).pos.params = none
        ∧ (t.axis n).pos.standstill = false ∧ t.standsStill n = false
        ∧ (t.axis n).pos.counting = none ∧ (t.axis n).pos.raw = 0 ∧ (t.axis n).pos.shift = 0
        ∧ (t.axis n).pos.referenced = false ∧ (t.axis n).pos.lossMark = false ∧ (t.axis n).pos.span = none
        ∧ (t.axis n).pos.lastSpan = 0 ∧ (t.axis n).pos.stallStart = none ∧ (t.axis n).pos.refLevel = refs.get n
        ∧ (∀ c now, ((t.axis n).pos.commit c now).referenced = false)
        ∧ (t.axis n).drive.mode = .none ∧ (t.axis n).drive.runFwd = false ∧ (t.axis n).drive.runRev = false
        ∧ (t.axis n).drive.rapid = false ∧ (t.axis n).drive.lastDir = none ∧ (t.axis n).drive.restStart = none
        ∧ (t.axis n).drive.revClear = false ∧ (t.axis n).drive.lockout = false ∧ (t.axis n).drive.pause = 0
        ∧ (t.axis n).page.serial = 0 ∧ (t.axis n).page.due = false ∧ (t.axis n).page.stale = false
        ∧ (t.axis n).page.lastTag = 0 ∧ (t.axis n).page.tornStamp = 0 ∧ (t.axis n).page.tornCode = 0
        ∧ (t.axis n).page.tornSeen = false)
    ∧ ∀ offset : BitVec 6, offset.toNat % 4 = 0 → t.readRegister offset =
        if offset = 0x00 then 0x00024100 else if offset = 0x18 then (if high then 0x10 else 0) else 0

/-- R196: RESET_PART is taken in every state and leaves the values of each block's reset rule (R25, R79, R122, R127, R136, R148,
R153, R173, R183, R187). The stop lockout kept is log 17, and the REF level last handed that the reset sequencer holds, inactive,
is the model's choice (log 30). -/
def Obligations.ResetPartValues : Prop :=
  ∀ (index : Byte) (argument : BitVec 16) (s : State), s.resetLow = false → ∃ t, exec (.resetPart index argument) s = .next t
    ∧ t.cmd.controller = .blank ∧ t.cmd.pendingIndex = none ∧ t.cmd.origin = none ∧ t.cmd.halt = none
    ∧ t.cmd.loadAddress = none ∧ t.setup = none ∧ t.shadow = none ∧ t.timeBase = s.timeBase
    ∧ t.xstopHigh = s.xstopHigh ∧ t.irqAsserted = false
    ∧ t.port.access = s.port.access.map (fun a => { a with dropped := true })
    ∧ t.port.chunk = none ∧ t.port.pointer = .reporter
    ∧ t.reporter = { timerStart := none, lastWritten := .a3, writing := none }
    ∧ (∀ n, t.port.waiting.get n = none
        ∧ (t.axis n).route = RouteUnit.reset ∧ (t.axis n).seq = Sequencer.reset
        ∧ (t.axis n).pos =
            { (s.axis n).pos with
              shift := 0, span := none, lastSpan := 0, stallStart := none, params := none, standstill := false }
        ∧ (t.axis n).drive.mode = .none ∧ (t.axis n).drive.pause = 0
        ∧ ((s.axis n).drive.Sound → (t.axis n).drive.runFwd = false ∧ (t.axis n).drive.rapid = false
            ∧ ((t.axis n).drive.runRev = true → (t.axis n).drive.dirHold = true ∧ (t.axis n).drive.dirDrop = true))
        ∧ (t.axis n).drive.restStart = none ∧ (t.axis n).drive.revClear = false
        ∧ (t.axis n).drive.lastDir = (s.axis n).drive.lastDir ∧ (t.axis n).drive.lockout = (s.axis n).drive.lockout
        ∧ (t.axis n).page = { PageUnit.reset with serial := (s.axis n).page.serial })
    ∧ (∀ u, (u = t ∨ exec (.resetPart index argument) t = .next u) →
        u.readRegister 0x04 = s.cmd.setupAddr ∧ u.readRegister 0x08 = 0x0000027F ∧ u.readRegister 0x10 = 0x10
          ∧ u.readRegister 0x14 = 0 ∧ u.readRegister 0x18 = (if s.xstopHigh then 0x10 else 0))

/-! ### What every step keeps -/

/-- The state right after reset is sound in every sense of Safety.lean. -/
def Obligations.ResetIsSound : Prop :=
  State.reset.LinesSafe ∧ State.reset.RecordsOrdered ∧ State.reset.AxesShaped ∧ State.reset.CommandSound
    ∧ State.reset.AxesAllowed ∧ State.reset.PositionsSound ∧ State.reset.PortSound

/-- R77, R125, R126, R128 to R130, R132: after every step a run line is active only with its drive request, RUNNING, XSTOP_N
high, no lockout and no reversal pause needed, and only for the last driven direction; RAPID only with run; the rest start is
NONE exactly while the run line is active or the axis does not stand still. In a step that is no pin reset a run line becomes
active from a rest, and against the last driven direction only with the reversal clear flag set, or where the pause ends in the
step: the PAUSE_ELAPSED of its axis with the pause passed, or with a pause of 0 ms the millisecond that makes it stand still;
the flag is then clear. The last driven direction changes only so. A rest start goes on as it is, or is the reading of the step
that gives it. The flag becomes set only where the pause has passed since the rest start, at once with a pause of 0 ms, and a
load and RESET_PART apart it stays set until a run line becomes active. That a new line follows in a later event is log 25,
that a disabled axis has no rest start is log 16, the standstill condition is log 20, and the millisecond of a step on an empty
queue is log 1: the model's readings. -/
def Obligations.LinesStaySafe : Prop :=
  ∀ s t : State, s.LinesSafe → s.CommandSound → step s = .next t →
    t.LinesSafe
      ∧ ((∀ pins refs, s.pending.head? ≠ some (.pinReset pins refs)) →
          ∀ n, DriveStage.Carries
            (s.pending.head? = some (.pauseElapsed n) ∧ (s.axis n).drive.Rested s.timeBase
              ∨ s.pending = [] ∧ (s.axis n).drive.pause = 0 ∧ s.standsStill n = false ∧ t.standsStill n = true)
            (¬ ∃ c, s.pending.head? = some c ∧ c.SetsDriveStage)
            t.timeBase (s.axis n).drive (t.axis n).drive)

/-- R3, R5 to R7: every step keeps the order of the records an axis holds. -/
def Obligations.RecordsStayOrdered : Prop :=
  ∀ s t : State, s.RecordsOrdered → step s = .next t → t.RecordsOrdered

/-- Table 3.1, R77, R156, R172, R191: every step keeps each axis in the shape of its state, the command unit sound, and the
axis states those that the controller state allows. -/
def Obligations.AxesAndCommandStaySound : Prop :=
  ∀ s t : State, s.AxesShaped → s.CommandSound → s.AxesAllowed → step s = .next t →
    t.AxesShaped ∧ t.CommandSound ∧ t.AxesAllowed

/-- R103, R140: every step keeps the raw count of a rotary axis in 0 … M − 1 and the position units sound, and the words of a
waiting outcome write in their transfer order. -/
def Obligations.PositionsAndPortStaySound : Prop :=
  ∀ s t : State, step s = .next t → (s.PositionsSound → t.PositionsSound) ∧ (s.PortSound → t.PortSound)

/-- What an event of one axis leaves alone: the other axes, the controller, the setup, the apertures, the port but for the
axis's own request, the registers but for the ATTN bits of the axis and of a command, and the command record but for the
completion of the axis's pending ABORT_AXIS. The end of an access also frees the port; a verification re-read that is equal to
a RETUNE with accepted arguments writes the one profile it names (R53), and the end of a delivery may make the result of the
release final. What the timers, notices and deadlines of an axis leave of its own blocks: the count, what the load gave the position
unit, the pair states and the spans, the output mode and pause of the drive stage, the page's serial, tag and torn items, the
outcome latch and the delivery. An index pulse also advances the model's counter of free values. -/
def Obligations.EventsKeepFrame : Prop :=
  (∀ (n : AxisId) (c : Instr) (s t : State),
    (c = .assertionNotice n ∨ (∃ e, c = .countChange n e) ∨ (∃ b, c = .refLevelChange n b)
      ∨ (∃ p, c = .pairBroken n p) ∨ (∃ p, c = .pairIntact n p) ∨ c = .standstillReached n ∨ c = .stallTimeExpiry n
      ∨ c = .moveTimeLimitExpiry n ∨ c = .dwellExpiry n ∨ c = .awaitDeadline n ∨ c = .closureAnnouncement n
      ∨ c = .patrolTimerExpiry n ∨ c = .pauseElapsed n ∨ c = .directionSetupElapsed n ∨ c = .directionHoldElapsed n
      ∨ c = .indexPulse n) →
    exec c s = .next t →
      State.Frame n { s with freeCount := t.freeCount } t
        ∧ ((∀ m, c ≠ .indexPulse m) → t.freeCount = s.freeCount))
  ∧ (∀ (n : AxisId) (c : Instr) (s t : State),
    ((∃ a, c = .fetchEnd n a) ∨ (∃ a, c = .closureRereadEnd n a) ∨ (∃ a, c = .outcomeWriteEnd n a)
      ∨ c = .verificationRereadEnd n .busError) →
    exec c s = .next t → t = s ∨ State.Frame n s.freePort t)
  ∧ (∀ (n : AxisId) (r : IssueRegion) (s t : State), exec (.verificationRereadEnd n (.data r)) s = .next t →
      t = s ∨ State.Frame n s.freePort t
        ∨ ∃ x i c, (s.axis n).seq.executing = some x ∧ x.record = r ∧ WaypointKind.ofCode r.kind = some .retune
            ∧ ProfileId.ofSelector r.selector = some i ∧ s.setup = some c
            ∧ (c.profiles.get i).accepts r.argA r.argB = true
            ∧ State.Frame n
                { s.freePort with
                  setup := some { c with profiles := c.profiles.set i ((c.profiles.get i).retuned r.argA r.argB) } } t)
  ∧ (∀ (n : AxisId) (c : Instr) (s t : State),
    ((∃ a, c = .deliveryRereadEnd n a) ∨ (∃ a, c = .deliveryWriteEnd n a)) → exec c s = .next t →
      t = s ∨ State.Frame n s.freePort t
        ∨ (s.axis n).seq.delivery.isSome = true ∧ (s.axis n).seq.latch.isSome = true
          ∧ ∃ r d i, (r = .done ∧ d = 0 ∧ i = 0 ∨ r = .refusedState ∧ d = 0 ∧ i = 0 ∨ r = .refusedAccess ∧ d = 4)
            ∧ State.Frame n (s.freePort.finish r d i) t)
  ∧ (∀ (n : AxisId) (c : Instr) (s t : State),
    (c = .assertionNotice n ∨ c = .stallTimeExpiry n ∨ c = .moveTimeLimitExpiry n ∨ c = .dwellExpiry n
      ∨ c = .awaitDeadline n ∨ c = .closureAnnouncement n ∨ c = .patrolTimerExpiry n) →
    exec c s = .next t →
      (∃ stall, (t.axis n).pos = { (s.axis n).pos with stallStart := stall })
        ∧ (t.axis n).drive.mode = (s.axis n).drive.mode ∧ (t.axis n).drive.pause = (s.axis n).drive.pause
        ∧ (∃ due, (t.axis n).page = { (s.axis n).page with due := due })
        ∧ (t.axis n).seq.latch = (s.axis n).seq.latch ∧ (t.axis n).seq.delivery = (s.axis n).seq.delivery
        ∧ (t.axis n).seq.refHanded = (s.axis n).seq.refHanded)

/-! ### Registers -/

/-- R189: IDENT reads the part code and the revision in every state, and takes no write. -/
def Obligations.IdentReads : Prop :=
  ∀ s : State, (s.readRegister 0x00).extractLsb' 0 16 = 0x4100 ∧ (s.readRegister 0x00).extractLsb' 16 8 = 0x02
    ∧ ∀ (lanes : BitVec 4) (value : Word), exec (.registerWriteNoEffect 0x00 lanes value) s = .next s

/-- R185: a write to ATTN clears the bits written as 1 and leaves the others; the state behind them stays; of a clear and
a setting cause the later one decides. -/
def Obligations.AttnWriteClears : Prop :=
  ∀ (value : Word) (s : State), s.resetLow = false → ∃ t, exec (.attn value) s = .next t
    ∧ (∀ i, i < 6 → t.attn.getLsbD i = (s.attn.getLsbD i && !value.getLsbD i))
    ∧ t = { s with attn := t.attn } ∧ t.readRegister 0x10 = t.attn.zeroExtend 32
    ∧ (∀ bits i, i < 6 → value.getLsbD i = true → bits.getLsbD i = true →
        (∀ u, exec (.attn value) (s.raise bits) = .next u → u.attn.getLsbD i = false)
          ∧ (t.raise bits).attn.getLsbD i = true)

/-- R186: a write to ATTN_MASK replaces its six bits, and IRQ_N is asserted exactly while a set bit is admitted. -/
def Obligations.AttnMaskWriteReplaces : Prop :=
  ∀ (value : Word) (s : State), s.resetLow = false → ∃ t, exec (.attnMask value) s = .next t
    ∧ (∀ i, i < 6 → t.attnMask.getLsbD i = value.getLsbD i) ∧ t = { s with attnMask := t.attnMask }
    ∧ (t.readRegister 0x14 = value &&& 0x3F)
    ∧ (∀ u : State, u.irqAsserted = true ↔ u.attn &&& u.attnMask ≠ 0)
    ∧ (∀ i, i < 6 → value.getLsbD i = true → s.attn.getLsbD i = true → t.irqAsserted = true)
    ∧ (∀ w u, exec (.attn w) s = .next u → s.attn &&& ~~~(w.extractLsb' 0 6) &&& s.attnMask = 0 →
        u.irqAsserted = false ∧ ∀ bits, bits &&& s.attnMask ≠ 0 → (u.raise bits).irqAsserted = true)

/-- R190: SETUP_ADDR takes every value in every state with RESET_N high; LOAD_SETUP tests and copies it; nothing but a write
and pin reset changes it. -/
def Obligations.SetupAddrHolds : Prop :=
  (∀ (value : Word) (s : State), s.resetLow = false → exec (.setupAddr value) s = .next { s with cmd.setupAddr := value })
    ∧ (∀ s : State, s.readRegister 0x04 = s.cmd.setupAddr)
    ∧ (∀ (c : Instr) (s t : State), (∀ v, c ≠ .setupAddr v) → (∀ pins refs, c ≠ .pinReset pins refs) → exec c s = .next t →
        t.cmd.setupAddr = s.cmd.setupAddr)
    ∧ (∀ (pins : ResetPins) (refs : PerAxis Bool) (s t : State),
        exec (.pinReset pins refs) s = .next t → t.cmd.setupAddr = 0)
    ∧ (∀ (index : Byte) (argument : BitVec 16) (s t : State),
        exec (.loadSetup index argument) s = .next t → s.cmd.controller ≠ .loading → t.cmd.controller = .loading →
          t.cmd.loadAddress = some s.cmd.setupAddr ∧ s.cmd.setupAddr.toNat % 32 = 0)

/-- NOTICE, with RESET_N high: each named axis that is not DORMANT loses DRY with its patrol timer and sets the notice latch,
which the start of a fetch clears; an idle axis with a staged record, and with no repeated ENCODER_LOST notice waiting (R110,
log 9), takes it, and a fetch starts where the fetch conditions hold and no closure work and no verification comes before it.
Nothing else of the axis changes but the drive stage's lines, and the announcements that a waiting record hears where the pause
of another axis is over; an axis that is not named, or DORMANT, is left alone. PAUSING is read where the pause is not over. -/
def Obligations.NoticeTaken : Prop :=
  ∀ (value : Word) (s : State), s.resetLow = false → ∃ t, exec (.notice value) s = .next t
    ∧ (∀ n, value.getLsbD n.toNat = false ∨ (s.axis n).seq.state = .dormant →
        AxisUnit.Untouched (s.axis n) (t.axis n))
    ∧ ((∀ n, s.PauseHolds n) →
        t = { s with axes := t.axes, port.waiting := t.port.waiting, cmd.halt := t.cmd.halt })
    ∧ ∀ n, value.getLsbD n.toNat = true → (s.axis n).seq.state ≠ .dormant → (s.axis n).Shaped → s.PauseHolds n →
        (t.axis n).seq.state = (s.axis n).seq.state
        ∧ (t.axis n).pos = (s.axis n).pos ∧ (t.axis n).page = (s.axis n).page
        ∧ (t.axis n).drive = ((s.evalDrive n).axis n).drive
        ∧ (¬ s.TakesHead n → (∀ m, s.PauseHolds m) → (t.axis n).seq = (s.axis n).seq)
        ∧ (¬ s.TakesHead n → ¬ s.FetchStarts n →
            AxisUnit.Untouched
              { s.axis n with
                route.noticeLatch := true
                route.dry := false
                route.patrolStart := if (s.axis n).route.dry then none else (s.axis n).route.patrolStart
                drive := ((s.evalDrive n).axis n).drive }
              (t.axis n))
        ∧ (∀ c, ¬ s.TakesHead n → s.FetchStarts n → s.sectionOf n = some c →
            AxisUnit.Untouched
              { s.axis n with
                route.noticeLatch := false
                route.dry := false
                route.patrolStart := if (s.axis n).route.dry then none else (s.axis n).route.patrolStart
                route.target := some
                  ⟨((s.axis n).route.cursor + (s.axis n).ahead) % c.length,
                    (s.axis n).route.expected + BitVec.ofNat 16 (s.axis n).ahead⟩
                drive := ((s.evalDrive n).axis n).drive }
              (t.axis n)
            ∧ t.port.waiting.get n =
                some ⟨.fetch, c.slotAddr (((s.axis n).route.cursor + (s.axis n).ahead) % c.length), []⟩)
        ∧ (∀ g rest, s.TakesHead n → (s.axis n).route.staging = g :: rest →
            (t.axis n).route =
              { (s.axis n).route with
                staging := rest
                noticeLatch := true
                dry := false
                patrolStart := if (s.axis n).route.dry then none else (s.axis n).route.patrolStart }
            ∧ (t.axis n).seq =
                { (s.axis n).seq with executing := some ⟨g.record, g.slot, s.timeBase, 0, 0, .verifying⟩ }
            ∧ (∀ c, s.routeFree n = true → s.sectionOf n = some c →
                t.port.waiting.get n = some ⟨.verification, c.slotAddr g.slot, []⟩))

/-! ### Commands -/

/-- While a result is PENDING every COMMAND write but RESET_PART is dropped: COMMAND_OVERRUN is set and nothing else
changes. -/
def Obligations.PendingDropsCommands : Prop :=
  ∀ (c : Instr) (index : Byte) (argument : BitVec 16) (s : State), s.resetLow = false → s.cmd.result = .pending →
    (c = .loadSetup index argument ∨ c = .start index argument ∨ c = .haltAll index argument
      ∨ c = .abortAxis index argument ∨ c = .releaseAxis index argument ∨ c = .clearReference index argument
      ∨ c = .snapshot index argument ∨ c = .closeAperture index argument ∨ c = .openAperture index argument
      ∨ ∃ code, code ∉ knownCommandCodes ∧ c = .unknownCommandCode code index argument) →
    exec c s = .next { s with cmd.overrun := true }

/-- An accepted write with an unknown code, or with an index that names no axis, ends REFUSED_ARGUMENT; the axis commands
then test the states: BLANK and LOADING, and the state of the named axis. A refusal changes the command record and ATTN bit
4 only. -/
def Obligations.CommandsRefused : Prop :=
  ∀ (index : Byte) (argument : BitVec 16) (s : State), s.resetLow = false → s.cmd.result ≠ .pending →
    (∀ code, code ∉ knownCommandCodes →
      exec (.unknownCommandCode code index argument) s = .next (s.afterFinal code .refusedArgument))
    ∧ (3 < index.toNat →
        exec (.abortAxis index argument) s = .next (s.afterFinal 0x10 .refusedArgument)
          ∧ exec (.releaseAxis index argument) s = .next (s.afterFinal 0x11 .refusedArgument)
          ∧ exec (.clearReference index argument) s = .next (s.afterFinal 0x12 .refusedArgument)
          ∧ exec (.snapshot index argument) s = .next (s.afterFinal 0x13 .refusedArgument))
    ∧ (∀ n : AxisId, index = n.toIndex →
        (s.cmd.controller = .blank ∨ s.cmd.controller = .loading ∨ (s.axis n).seq.state = .dormant →
          exec (.abortAxis index argument) s = .next (s.afterFinal 0x10 .refusedState)
            ∧ exec (.snapshot index argument) s = .next (s.afterFinal 0x13 .refusedState))
        ∧ (s.cmd.controller = .blank ∨ s.cmd.controller = .loading ∨ (s.axis n).seq.state ≠ .held
              ∨ s.xstopHigh = false →
            exec (.releaseAxis index argument) s = .next (s.afterFinal 0x11 .refusedState))
        ∧ (s.cmd.controller = .blank ∨ s.cmd.controller = .loading
              ∨ ((s.axis n).seq.state ≠ .idle ∧ (s.axis n).seq.state ≠ .held) →
            exec (.clearReference index argument) s = .next (s.afterFinal 0x12 .refusedState)))

/-- R158: LOAD_SETUP's tests in order, and what a taken one does. -/
def Obligations.LoadSetupTaken : Prop :=
  ∀ (index : Byte) (argument : BitVec 16) (s : State), s.resetLow = false → s.cmd.result ≠ .pending →
    (s.cmd.controller ≠ .blank ∧ s.cmd.controller ≠ .loaded →
      exec (.loadSetup index argument) s = .next (s.afterFinal 0x01 .refusedState))
    ∧ ∀ origin, (s.cmd.controller = .blank ∧ origin = .blank) ∨ (s.cmd.controller = .loaded ∧ origin = .loaded) →
        ((∃ n, (s.axis n).seq.latch.isSome = true) →
          exec (.loadSetup index argument) s = .next (s.afterFinal 0x01 .refusedLatched))
        ∧ ((∀ n, (s.axis n).seq.latch = none) → s.cmd.setupAddr.toNat % 32 ≠ 0 →
            exec (.loadSetup index argument) s = .next (s.afterFinal 0x01 .refusedArgument))
        ∧ ((∀ n, (s.axis n).seq.latch = none) → s.cmd.setupAddr.toNat % 32 = 0 →
            exec (.loadSetup index argument) s = .next
              { s with
                cmd :=
                  { s.cmd.pended 0x01 index with
                    controller := .loading, origin := some origin, loadAddress := some s.cmd.setupAddr }
                shadow := some []
                port.chunk := some 0 })

/-- START: taken in LOADED, refused elsewhere; with XSTOP_N high every IDLE axis with nothing held, no access of its own and
no DRY starts the fetch of slot C for stamp E; with XSTOP_N low an IDLE axis, whose assertion notice is still under way, is found
HELD with LINE_STOP (R134, log 33), and no fetch begins. A HELD or DORMANT axis keeps its sequencer. -/
def Obligations.StartTaken : Prop :=
  ∀ (index : Byte) (argument : BitVec 16) (s : State), s.resetLow = false → s.cmd.result ≠ .pending →
    (s.cmd.controller ≠ .loaded → exec (.start index argument) s = .next (s.afterFinal 0x02 .refusedState))
    ∧ (s.cmd.controller = .loaded → ∃ t, exec (.start index argument) s = .next t
        ∧ t.cmd = { s.cmd.final 0x02 .done with controller := .running, halt := t.cmd.halt }
        ∧ (s.cmd.halt = none → t.cmd.halt = none)
        ∧ t.attn &&& 0x10 = 0x10 ∧ t.apertureOpen = s.apertureOpen ∧ t.attnMask = s.attnMask ∧ t.shadow = s.shadow
        ∧ t.timeBase = s.timeBase ∧ t.port.access = s.port.access
        ∧ (∀ n, (s.axis n).Shaped →
            (s.axis n).seq.state = .held ∨ (s.axis n).seq.state = .dormant →
            (t.axis n).seq = (s.axis n).seq ∧ (t.axis n).pos = (s.axis n).pos)
        ∧ (s.xstopHigh = false → (∀ n, (s.axis n).Shaped) →
            (∀ n, (s.axis n).seq.state = .dormant ∨ (s.axis n).seq.state = .idle ∨ (s.axis n).seq.state = .held) →
            ∀ n, (t.axis n).route.target = none
              ∧ (∀ q, t.port.waiting.get n = some q → q.kind = .fetch → s.port.waiting.get n = some q)
              ∧ ((s.axis n).seq.state = .idle →
                  State.HeldBy n .lineStop t ∧ (t.axis n).seq.executing = none ∧ (t.axis n).page.due = true
                    ∧ (t.axis n).seq.stopNotices = (s.axis n).seq.stopNotices - 1
                    ∧ (t.axis n).route.closure = (s.axis n).route.closure
                    ∧ (t.axis n).route.expected = (s.axis n).route.expected
                    ∧ (t.axis n).route.cursor = (s.axis n).route.cursor))
        ∧ (∀ n c, s.xstopHigh = true → (s.axis n).seq.state = .idle → s.sectionOf n = some c → s.routeFree n = true →
            (s.axis n).route.staging = [] → (s.axis n).seq.executing = none → (s.axis n).route.closure = none →
            (s.axis n).seq.delivery = none → (s.axis n).route.dry = false →
              (t.axis n).route.target = some ⟨(s.axis n).route.cursor % c.length, (s.axis n).route.expected⟩
                ∧ t.port.waiting.get n =
                    some ⟨.fetch, c.slotAddr ((s.axis n).route.cursor % c.length), []⟩))

/-- HALT_ALL: taken in RUNNING, refused in BLANK and LOADED; every axis acts by its state and discards staging; the halt
completes in the event where every axis is settled then. -/
def Obligations.HaltAllTaken : Prop :=
  ∀ (index : Byte) (argument : BitVec 16) (s : State), s.resetLow = false → s.cmd.result ≠ .pending →
    (s.cmd.controller ≠ .running → exec (.haltAll index argument) s = .next (s.afterFinal 0x03 .refusedState))
    ∧ (s.cmd.controller = .running → (∀ n, (s.axis n).Shaped) → ∃ t, exec (.haltAll index argument) s = .next t
        ∧ (t.cmd.controller = .halting ∧ t.cmd.result = .pending ∧ t.cmd.pendingIndex = some index
              ∧ t.cmd.halt.isSome = true
            ∨ t.cmd.controller = .loaded ∧ t.cmd.result = .done ∧ t.cmd.pendingIndex = none ∧ t.cmd.halt = none
              ∧ t.attn &&& 0x10 = 0x10)
        ∧ t.cmd.lastCode = 0x03 ∧ t.cmd.overrun = false ∧ t.cmd.detail = 0 ∧ t.cmd.detailIndex = 0
        ∧ ((∀ n, s.settledNow n = true) → t.cmd.controller = .loaded)
        ∧ ((∃ n, (s.axis n).seq.state ≠ .dormant ∧ s.standsStill n = false) → t.cmd.controller = .halting)
        ∧ (∀ n, (s.axis n).seq.state ≠ .dormant →
            (t.axis n).route.staging = [] ∧ (t.axis n).route.target = none ∧ (t.axis n).route.dry = false)
        ∧ (∀ n, (s.axis n).seq.state = .idle ∨ (s.axis n).seq.state = .held →
            (t.axis n).seq.state = (s.axis n).seq.state ∧ (t.axis n).seq.executing = none
              ∧ (t.axis n).seq.heldCause = (s.axis n).seq.heldCause)
        ∧ (∀ n, (s.axis n).seq.state = .stopping → (t.axis n).seq = (s.axis n).seq)
        ∧ (∀ n, (s.axis n).seq.state.inMotion = true → s.standsStill n = false →
            State.StopsWith n none .abandoned s t)
        ∧ (∀ n x, (s.axis n).seq.state = .dwelling ∨ (s.axis n).seq.state = .awaiting
              ∨ (s.axis n).seq.state.inMotion = true ∧ s.standsStill n = true →
            (s.axis n).seq.executing = some x →
              (t.axis n).seq.state = .idle ∧ (t.axis n).seq.executing = none ∧ (t.axis n).seq.heldCause = none
                ∧ (t.axis n).seq.stoppingOutcome = none ∧ (t.axis n).seq.moveExpiry = none
                ∧ (t.axis n).page.due = true
                ∧ (t.axis n).route.expected = (s.axis n).route.expected + 1
                ∧ (t.axis n).route.cursor = ((s.axis n).route.cursor + 1) % s.routeLength n
                ∧ ∃ e, (t.axis n).route.closure = some ⟨e, .reread⟩ ∧ e.outcome = .abandoned ∧ e.record = x.record
                    ∧ e.slot = x.slot ∧ e.legByte = legByte x.corrections x.legs
                    ∧ e.finalPos = (s.axis n).pos.reported ∧ e.elapsed = s.timeBase - x.startTime))

/-- ABORT_AXIS, taken: by axis state as table of R73. -/
def Obligations.AbortAxisTaken : Prop :=
  ∀ (n : AxisId) (argument : BitVec 16) (s : State), s.resetLow = false → s.cmd.result ≠ .pending → s.cmd.controller ≠ .blank →
    s.cmd.controller ≠ .loading → (s.axis n).seq.state ≠ .dormant → (s.axis n).Shaped →
    ∃ t, exec (.abortAxis n.toIndex argument) s = .next t
      ∧ t.cmd.lastCode = 0x10 ∧ t.cmd.overrun = false ∧ t.cmd.controller = s.cmd.controller
      ∧ (∀ m, m ≠ n → AxisUnit.Untouched (s.axis m) (t.axis m))
      ∧ match (s.axis n).seq.state with
        | .held =>
          (t.axis n).seq = (s.axis n).seq ∧ t.cmd.result = .done ∧ t.cmd.pendingIndex = none ∧ t.attn &&& 0x10 = 0x10
        | .stopping =>
          (t.axis n).seq = (s.axis n).seq ∧ t.cmd.result = .pending ∧ t.cmd.pendingIndex = some n.toIndex
        | .idle | .dwelling | .awaiting =>
          State.CauseTaken n .aborted .abandoned s t
            ∧ t.cmd.result = .done ∧ t.cmd.pendingIndex = none ∧ t.attn &&& 0x10 = 0x10
        | .rapid | .creep | .coasting | .pausing | .seeking =>
          State.CauseTaken n .aborted .abandoned s t
            ∧ (s.standsStill n = false → t.cmd.result = .pending ∧ t.cmd.pendingIndex = some n.toIndex)
            ∧ (s.standsStill n = true → t.cmd.result = .done ∧ t.attn &&& 0x10 = 0x10)
        | .dormant => True

/-- RELEASE_AXIS, taken: with an empty latch it completes at once, the axis IDLE, and an axis whose encoder condition is LOST is
handed the repeated ENCODER_LOST notice, which it takes once its page for IDLE has been composed (R110, log 9; O48); notices that
waited for the HELD axis are taken before; with an outcome latched it starts the
delivery and stays PENDING. -/
def Obligations.ReleaseAxisTaken : Prop :=
  ∀ (n : AxisId) (argument : BitVec 16) (s : State), s.resetLow = false → s.cmd.result ≠ .pending → s.cmd.controller ≠ .blank →
    s.cmd.controller ≠ .loading → (s.axis n).seq.state = .held → s.xstopHigh = true → (s.axis n).Shaped →
    ∃ t, exec (.releaseAxis n.toIndex argument) s = .next t
      ∧ t.cmd.lastCode = 0x11 ∧ t.cmd.overrun = false ∧ t.cmd.controller = s.cmd.controller
      ∧ (∀ m, m ≠ n → AxisUnit.Untouched (s.axis m) (t.axis m))
      ∧ (t.axis n).drive.lastDir = (s.axis n).drive.lastDir
      ∧ (∃ stall, (t.axis n).pos = { (s.axis n).pos with stallStart := stall })
      ∧ ((s.axis n).seq.latch = none →
          (t.axis n).seq.handed =
              (if (s.axis n).pos.counting.isSome = true ∧ (s.axis n).pos.pairs.lost = true
                then [⟨.encoderLost, .encoderLost⟩] else [])
            ∧ (t.axis n).seq.state = .idle ∧ (t.axis n).seq.heldCause = none ∧ (t.axis n).seq.later = 0
            ∧ (t.axis n).route.dry = false ∧ (t.axis n).page.due = true
            ∧ t.cmd.result = .done ∧ t.cmd.pendingIndex = none ∧ t.attn &&& 0x10 = 0x10
            ∧ (∀ c, s.cmd.controller = .running → s.sectionOf n = some c → s.routeFree n = true →
                (s.axis n).route.closure = none →
                  (t.axis n).route.target =
                    some ⟨(s.axis n).route.cursor % c.length, (s.axis n).route.expected⟩))
      ∧ (∀ e, (s.axis n).seq.latch = some e →
          (t.axis n).seq = { (s.axis n).seq with delivery := some .reread }
            ∧ t.cmd.result = .pending ∧ t.cmd.pendingIndex = some n.toIndex
            ∧ (∀ c, s.sectionOf n = some c → s.routeFree n = true →
                t.port.waiting.get n = some ⟨.deliveryReread, c.slotAddr e.slot, []⟩))

/-- R114: CLEAR_REFERENCE, taken for an IDLE or HELD axis: the flag is clear, a set flag makes the page due, nothing else of
the axis changes; a move that starts after it is rejected as unreferenced. -/
def Obligations.ClearReferenceTaken : Prop :=
  ∀ (index : Byte) (argument : BitVec 16) (s : State), s.resetLow = false → s.cmd.result ≠ .pending →
    (3 < index.toNat →
      exec (.clearReference index argument) s = .next (s.afterFinal 0x12 .refusedArgument))
    ∧ ∀ n : AxisId, index = n.toIndex →
        (s.cmd.controller = .blank ∨ s.cmd.controller = .loading
            ∨ ((s.axis n).seq.state ≠ .idle ∧ (s.axis n).seq.state ≠ .held) →
          exec (.clearReference index argument) s = .next (s.afterFinal 0x12 .refusedState))
        ∧ (s.cmd.controller ≠ .blank → s.cmd.controller ≠ .loading →
            (s.axis n).seq.state = .idle ∨ (s.axis n).seq.state = .held →
            ∃ t, exec (.clearReference index argument) s = .next t
              ∧ t = (s.setAxis n
                      { s.axis n with
                        pos.referenced := false
                        page.due := (s.axis n).page.due || (s.axis n).pos.referenced }).afterFinal 0x12 .done
              ∧ ∀ c r, WaypointKind.ofCode r.kind = some .moveTo ∨ WaypointKind.ofCode r.kind = some .moveBy →
                  t.validate n c r = some .rejectedProfile ∨ t.validate n c r = some .rejectedArgument
                    ∨ t.validate n c r = some .rejectedUnreferenced)

/-- SNAPSHOT, taken: the page of the axis is due, the command PENDING, nothing else changes. -/
def Obligations.SnapshotTaken : Prop :=
  ∀ (n : AxisId) (argument : BitVec 16) (s : State), s.resetLow = false → s.cmd.result ≠ .pending → s.cmd.controller ≠ .blank →
    s.cmd.controller ≠ .loading → (s.axis n).seq.state ≠ .dormant →
    exec (.snapshot n.toIndex argument) s = .next
      { s.setAxis n { s.axis n with page.due := true } with cmd := s.cmd.pended 0x13 n.toIndex }

/-- R145: CLOSE_APERTURE and OPEN_APERTURE: the tests in order, and what a taken one does: the state of the entry alone
changes, and the next commit sets each entry as its open-at-load flag says, whatever commands were taken. -/
def Obligations.ApertureCommands : Prop :=
  ∀ (index : Byte) (argument : BitVec 16) (s : State) (c : Instr) (code : Byte) (opened : Bool),
    s.resetLow = false → s.cmd.result ≠ .pending →
    (c = .closeAperture index argument ∧ code = 0x20 ∧ opened = false)
      ∨ (c = .openAperture index argument ∧ code = 0x21 ∧ opened = true) →
    (5 < index.toNat → exec c s = .next (s.afterFinal code .refusedArgument))
    ∧ ∀ i : EntryId, index.toNat = i.toNat →
        (s.cmd.controller = .blank ∨ s.cmd.controller = .loading → exec c s = .next (s.afterFinal code .refusedState))
        ∧ (s.cmd.controller ≠ .blank → s.cmd.controller ≠ .loading →
            ((s.setup = none ∨ ∃ u, s.setup = some u ∧ (u.apertures.get i).rights = .none) →
              exec c s = .next (s.afterFinal code .refusedArgument))
            ∧ (∀ u, s.setup = some u → (u.apertures.get i).rights ≠ .none →
                exec c s = .next ({ s with apertureOpen := s.apertureOpen.set i opened }.afterFinal code .done)))
        ∧ (∀ ws j, (s.commitLoad ws).apertureOpen.get j = ((parseSetup ws).apertures.get j).opens)

/-! ### The stop line -/

/-- An assertion of XSTOP_N: in its event every run line and RAPID are inactive and every lockout set; ATTN bit 5 is set; in
LOADED, RUNNING and HALTING every sequencer that is not DORMANT is handed the notice. A release: ATTN bit 5 is set, and a
lockout clears where the drive request is inactive; the sequencers are not told. -/
def Obligations.StopLineEdges : Prop :=
  (∀ s : State, s.resetLow = false → s.xstopHigh = true → (∀ n, (s.axis n).drive.Sound) →
    ∃ t, exec .xstopAssertion s = .next t ∧ t.xstopHigh = false ∧ t.attn = s.attn ||| 0x20
      ∧ t.readRegister 0x18 &&& 0x10 = 0
      ∧ (∀ n, (t.axis n).drive.running = none ∧ (t.axis n).drive.rapid = false ∧ (t.axis n).drive.lockout = true
          ∧ (t.axis n).drive.lastDir = (s.axis n).drive.lastDir
          ∧ ((s.axis n).drive.mode = .steer → (t.axis n).drive.runRev = (s.axis n).drive.runRev)
          ∧ ((s.axis n).drive.restStart = none → s.standsStill n = true →
              (t.axis n).drive.restStart = some s.timeBase)
          ∧ (t.axis n).seq =
              { (s.axis n).seq with
                stopNotices := (s.axis n).seq.stopNotices +
                  (if (s.cmd.controller = .loaded ∨ s.cmd.controller = .running ∨ s.cmd.controller = .halting)
                      ∧ (s.axis n).seq.state ≠ .dormant then 1 else 0) }
          ∧ (t.axis n).route = (s.axis n).route ∧ (t.axis n).pos = (s.axis n).pos ∧ (t.axis n).page = (s.axis n).page)
      ∧ t = { s with xstopHigh := false, attn := t.attn, axes := t.axes })
  ∧ (∀ s : State, s.resetLow = false → s.xstopHigh = false →
    ∃ t, exec .xstopRelease s = .next t ∧ t.xstopHigh = true ∧ t.attn = s.attn ||| 0x20
      ∧ t.readRegister 0x18 &&& 0x10 = 0x10
      ∧ (∀ n, (t.axis n).drive.lockout = ((s.axis n).drive.lockout && (s.axis n).seq.request.isSome)
          ∧ ((s.axis n).seq.request = none → (t.axis n).drive.running = none)
          ∧ ((s.axis n).drive.lockout = true → (t.axis n).drive.running = none)
          ∧ (t.axis n).seq = (s.axis n).seq ∧ (t.axis n).route = (s.axis n).route ∧ (t.axis n).pos = (s.axis n).pos
          ∧ (t.axis n).page = (s.axis n).page)
      ∧ t = { s with xstopHigh := true, attn := t.attn, axes := t.axes })

/-- A sequencer that takes the assertion notice acts by its axis state, with LINE_STOP and LINE_STOPPED. -/
def Obligations.AssertionNoticeTaken : Prop :=
  ∀ (n : AxisId) (s : State), (s.axis n).Shaped → (s.axis n).seq.stopNotices ≠ 0 →
    s.cmd.controller = .loaded ∨ s.cmd.controller = .running ∨ s.cmd.controller = .halting →
    ∃ t, exec (.assertionNotice n) s = .next t ∧ State.CauseTaken n .lineStop .lineStopped s t
      ∧ (t.axis n).seq.stopNotices = (s.axis n).seq.stopNotices - 1

/-! ### Counting and index pulses -/

/-- The edges that give a count in each edge mode, and what a count change does to the position unit. The standstill lost
returns the rest start of the drive stage to NONE, and a reversal clear flag stays as it is while no run line becomes active
(R129). -/
def Obligations.CountChangeCounts : Prop :=
  (∀ other : Bool,
      (∀ m : EdgeMode, m.count (.single .a true other) = some (if other then .reverse else .forward)
        ∧ m.count .both = none)
      ∧ EdgeMode.x1.count (.single .a false other) = none
      ∧ (∀ m : EdgeMode, m ≠ .x1 → m.count (.single .a false other) = some (if other then .forward else .reverse))
      ∧ (∀ (m : EdgeMode) (rising : Bool), m ≠ .x4 → m.count (.single .b rising other) = none)
      ∧ EdgeMode.x4.count (.single .b true other) = some (if other then .forward else .reverse)
      ∧ EdgeMode.x4.count (.single .b false other) = some (if other then .reverse else .forward))
    ∧ ∀ (n : AxisId) (edges : List Edge) (s : State) (c : Counting) (ds : List Direction),
        (s.axis n).pos.Sound → (s.axis n).pos.counting = some c → ds = edges.filterMap c.edge.count → ds ≠ [] →
        ∃ t, exec (.countChange n edges) s = .next t
          ∧ (match c.kind with
              | .linear => (t.axis n).pos.raw = (s.axis n).pos.raw + BitVec.ofInt 32 (countSum ds)
              | .rotary m => ((t.axis n).pos.raw.toNat : Int) = (((s.axis n).pos.raw.toNat : Int) + countSum ds) % (m : Int))
          ∧ (t.axis n).pos.lastChange = s.timeBase ∧ t.standsStill n = false
          ∧ (t.axis n).drive.restStart = none
          ∧ ((t.axis n).drive.running = none → (t.axis n).drive.revClear = (s.axis n).drive.revClear)
          ∧ (t.axis n).pos.lastCount = ds.getLast?
          ∧ ((s.axis n).pos.span = none → (t.axis n).pos.span = none)
          ∧ (∀ w, (s.axis n).pos.span = some w →
              ((∀ d ∈ ds, d = w.direction) → (t.axis n).pos.span = some { w with count := w.count + ds.length })
                ∧ ((∃ d ∈ ds, d ≠ w.direction) → (t.axis n).pos.span = none))
          ∧ (∀ t0, (s.axis n).pos.stallStart = some t0 → (s.axis n).seq.state.driving = true →
              (t.axis n).seq.state.driving = true → (t.axis n).pos.stallStart = some s.timeBase)
          ∧ (∃ stall span, (t.axis n).pos =
              { (s.axis n).pos with
                raw := (t.axis n).pos.raw, lastChange := s.timeBase, standstill := false, stallStart := stall
                span := span, lastCount := ds.getLast? })

/-- What a count change does to the executing record: the distance-to-go of a leg follows the counts in the leg's direction, and
the zone follows the distance-to-go; in SEEKING the travel of a search follows the counts in the direction of its motion, and a
change that raises it above B exhausts the search. -/
def Obligations.CountChangeMovesRecord : Prop :=
  (∀ (n : AxisId) (edges : List Edge) (s : State) (c : Counting) (x : Executing) (m : MoveState) (l : Leg) (g : Int),
    (s.axis n).pos.Sound → (s.axis n).pos.counting = some c → edges.filterMap c.edge.count ≠ [] →
    (s.axis n).seq.executing = some x → x.work = .move m → m.leg = some l →
    g = l.togo - l.direction.sign * countSum (edges.filterMap c.edge.count) →
    ∃ t, exec (.countChange n edges) s = .next t
      ∧ ((s.axis n).seq.state = .rapid ∨ (s.axis n).seq.state = .creep ∨ (s.axis n).seq.state = .coasting
          ∨ (s.axis n).seq.state = .pausing ∧ (s.axis n).drive.needsPause l.direction = true →
          (t.axis n).seq.executing = some { x with work := .move { m with leg := some { l with togo := g } } })
      ∧ ((s.axis n).seq.state = .rapid →
          (g ≤ (l.cutPoint.getD 0 : Nat) → (t.axis n).seq.state = .coasting)
          ∧ ((l.cutPoint.getD 0 : Nat) < g → g ≤ (l.captured.slow : Int) →
              (t.axis n).seq.state = .creep ∧ (t.axis n).page.due = true
                ∧ (x.record.notifySlow = true → l.role = .final → l.cls = .first →
                    t.attn &&& axisAttnBit n = axisAttnBit n))
          ∧ ((l.cutPoint.getD 0 : Nat) < g → (l.captured.slow : Int) < g → (t.axis n).seq.state = .rapid))
      ∧ ((s.axis n).seq.state = .creep →
          (t.axis n).seq.state = if g ≤ (l.cutPoint.getD 0 : Nat) then .coasting else .creep)
      ∧ ((s.axis n).seq.state = .coasting → (t.axis n).seq.state = .coasting))
  ∧ (∀ (n : AxisId) (edges : List Edge) (s : State) (c : Counting) (x : Executing) (k : SearchState) (travel : Int),
    (s.axis n).pos.Sound → (s.axis n).pos.counting = some c → edges.filterMap c.edge.count ≠ [] →
    (s.axis n).seq.executing = some x → x.work = .search k → (s.axis n).seq.state = .seeking →
    travel = k.travel + k.motionDirection.sign * countSum (edges.filterMap c.edge.count) →
    ∃ t, exec (.countChange n edges) s = .next t
      ∧ (t.axis n).seq.executing = some { x with work := .search { k with travel := travel } }
      ∧ (t.axis n).pos.referenced = (s.axis n).pos.referenced
      ∧ (k.travel < travel → (x.record.argB : Int) < travel →
          (t.axis n).seq.state = .stopping ∧ (t.axis n).seq.stoppingOutcome = some .searchExhausted
            ∧ (t.axis n).seq.heldCause = some .searchExhausted)
      ∧ (travel ≤ k.travel ∨ travel ≤ (x.record.argB : Int) → (t.axis n).seq.state = .seeking))

/-- An index pulse: the span of a running measurement is stored, the pulse starts the next measurement in the direction of
the last count, and the raw count stays unless the pulse qualifies for a search. A span beyond 32 bits, and a direction
without a count, are free values (log 6, 7). -/
def Obligations.IndexPulseMeasures : Prop :=
  ∀ (n : AxisId) (s : State), (s.axis n).pos.counting.isSome = true →
    ∃ t, exec (.indexPulse n) s = .next t
      ∧ ((s.axis n).pos.span = none → (t.axis n).pos.lastSpan = (s.axis n).pos.lastSpan)
      ∧ (∀ w, (s.axis n).pos.span = some w → w.count < 4294967296 →
          (t.axis n).pos.lastSpan = BitVec.ofNat 32 w.count)
      ∧ (∃ d, (t.axis n).pos.span = some ⟨d, 0⟩ ∧ ∀ d', (s.axis n).pos.lastCount = some d' → d = d')
      ∧ ((s.axis n).seq.qualifies = none → (t.axis n).pos.raw = (s.axis n).pos.raw)
      ∧ (t.axis n).pos.shift = (s.axis n).pos.shift ∧ (t.axis n).pos.lossMark = (s.axis n).pos.lossMark

/-- A measured span out of tolerance under an enabled check is a slip: the referenced flag is clear, and the sequencer takes
SLIPPED, after a repeated ENCODER_LOST notice where one waits for it (R105, R110, log 9); of a slip and a qualifying pulse of
the same event either comes first (log 8), and the axis stops for the slip: no pair of an axis in a motion state is broken, which
`AxisUnit.Shaped` says. -/
def Obligations.IndexPulseSlips : Prop :=
  ∀ (n : AxisId) (s : State) (w : SpanMeasurement) (q : PositionParams) (c : Counting) (want : Nat),
    (s.axis n).Shaped → (s.axis n).pos.counting = some c → (s.axis n).pos.span = some w →
    (s.axis n).pos.params = some q → q.indexCheck = true →
    (c.kind = .rotary want ∨ c.kind = .linear ∧ q.indexSpan = want ∧ want ≠ 0) →
    (q.tolerance : Int) < |(w.count : Int) - (want : Int)| →
    ∃ t, exec (.indexPulse n) s = .next t ∧ (t.axis n).pos.referenced = false
      ∧ ((s.axis n).pos.referenced = true → (s.axis n).seq.state ≠ .dormant → (t.axis n).page.due = true)
      ∧ ((s.axis n).seq.qualifies = none → State.UnitNoticeTaken n .slipped .slipped s t)
      ∧ ((s.axis n).seq.qualifies.isSome = true → (t.axis n).seq.heldCause = some .slipped)

/-- R118: a qualifying pulse of a search, with no slip: the raw count is set so that the reported position equals A, taken
modulo M on a rotary axis, the axis passes to COASTING, and the referenced flag stays as it is. -/
def Obligations.IndexPulseQualifies : Prop :=
  ∀ (n : AxisId) (s : State) (c : Counting) (x : Executing) (k : SearchState),
    (s.axis n).pos.Sound → (s.axis n).pos.counting = some c → (s.axis n).seq.state = .seeking →
    (s.axis n).seq.executing = some x → x.work = .search k → k.motion = .search →
    (x.record.selector = 1 ∨ (s.axis n).seq.refHanded = true) → s.standsStill n = false →
    (∀ w, (s.axis n).pos.span = some w → (s.axis n).pos.slips w.count = false) →
    ∃ t, exec (.indexPulse n) s = .next t ∧ (t.axis n).seq.state = .coasting
      ∧ (t.axis n).seq.executing = some { x with work := .search { k with qualified := true } }
      ∧ (t.axis n).pos.reportedInt =
          (match c.kind with
            | .linear => x.record.argA
            | .rotary m => x.record.argA % (m : Int))
      ∧ (t.axis n).pos.shift = (s.axis n).pos.shift ∧ (t.axis n).pos.referenced = (s.axis n).pos.referenced
      ∧ (t.axis n).seq.request = none

/-- A change of the REF level: the position unit holds it, and a sequencer whose axis is not DORMANT holds it as last handed;
REF going inactive ends a back-off in SEEKING. -/
def Obligations.RefLevelHanded : Prop :=
  ∀ (n : AxisId) (active : Bool) (s : State), (s.axis n).pos.refLevel ≠ active →
    ∃ t, exec (.refLevelChange n active) s = .next t ∧ (t.axis n).pos.refLevel = active
      ∧ (t.axis n).pos.raw = (s.axis n).pos.raw
      ∧ ((s.axis n).seq.state = .dormant → (t.axis n).seq = (s.axis n).seq)
      ∧ ((s.axis n).seq.state ≠ .dormant → (t.axis n).seq.refHanded = active)
      ∧ (∀ x k, (s.axis n).seq.state = .seeking → (s.axis n).seq.executing = some x → x.work = .search k →
          ((active = false ∧ k.motion = .backOff) → s.standsStill n = false →
            (t.axis n).seq.state = .coasting ∧ (t.axis n).seq.executing = some x)
          ∧ (active = true ∨ k.motion = .search → (t.axis n).seq.state = .seeking))

/-- The wire-break monitor: the pair that breaks while the condition is GOOD is encoder loss, which clears the referenced flag,
sets the loss mark and is taken by the sequencer, after a repeated notice where one waits (R105, log 9); a second pair and a
pair that recovers change the pair alone. -/
def Obligations.PairsWatched : Prop :=
  ∀ (n : AxisId) (pair : Pair) (s : State), (s.axis n).pos.counting.isSome = true →
    ((s.axis n).pos.pairs.get pair = false → (s.axis n).pos.pairs.lost = true →
      exec (.pairBroken n pair) s =
        .next (s.setAxis n { s.axis n with pos.pairs := (s.axis n).pos.pairs.set pair true }))
    ∧ ((s.axis n).pos.pairs.lost = false → (s.axis n).Shaped →
        ∃ t, exec (.pairBroken n pair) s = .next t ∧ (t.axis n).pos.pairs.get pair = true
          ∧ (t.axis n).pos.pairs.lost = true ∧ (t.axis n).pos.referenced = false ∧ (t.axis n).pos.lossMark = true
          ∧ (t.axis n).pos.raw = (s.axis n).pos.raw
          ∧ State.UnitNoticeTaken n .encoderLost .encoderLost s t)
    ∧ ((s.axis n).pos.pairs.get pair = true →
        exec (.pairIntact n pair) s =
          .next (s.setAxis n { s.axis n with pos.pairs := (s.axis n).pos.pairs.set pair false }))

/-! ### Standstill and the ends of a record -/

/-- R64: STOPPING ends at standstill: the record closes with the stopping outcome, and the axis goes HELD with its held
cause, completing a pending ABORT_AXIS, or IDLE where the held cause is NONE. An axis that goes IDLE with its encoder condition
LOST is handed the repeated ENCODER_LOST notice (R110), which it takes once its page for IDLE has been composed: the model's
reading, log 9. -/
def Obligations.StandstillEndsStopping : Prop :=
  ∀ (n : AxisId) (s : State) (x : Executing) (o : Outcome), (s.axis n).Shaped → s.RestDue n →
    (s.axis n).seq.state = .stopping → (s.axis n).seq.executing = some x →
    (s.axis n).seq.stoppingOutcome = some o →
    ∃ t, exec (.standstillReached n) s = .next t ∧ t.standsStill n = true
      ∧ State.Closed n x o s.timeBase s t ∧ (t.axis n).page.due = true
      ∧ (∀ k, (s.axis n).seq.heldCause = some k → State.HeldBy n k t
          ∧ (s.cmd.result = .pending → s.cmd.lastCode = 0x10 → s.cmd.pendingIndex = some n.toIndex →
              State.AbortDone s t))
      ∧ ((s.axis n).seq.heldCause = none →
          (t.axis n).seq.state = .idle ∧ (t.axis n).seq.heldCause = none
            ∧ (t.axis n).seq.handed =
                (if (s.axis n).pos.counting.isSome = true ∧ (s.axis n).pos.pairs.lost = true
                  then [⟨.encoderLost, .encoderLost⟩] else []))

/-- R95 to R97: the coast end of a FINAL leg: REACHED within the captured window; else MISSED where the corrections used equal
the captured retries or a take-up point lies outside the limits; else a correction, whose first leg waits in PAUSING where the
drive stage needs a reversal pause of more than 0 ms (R88, R96). -/
def Obligations.StandstillEndsFinalLeg : Prop :=
  ∀ (n : AxisId) (s : State) (c : Section) (x : Executing) (m : MoveState) (l : Leg) (q e : Int) (d : Direction),
    (s.axis n).Shaped → s.RestDue n → (s.axis n).seq.state = .coasting → s.sectionOf n = some c →
    (s.axis n).seq.executing = some x → x.work = .move m → m.leg = some l → l.role = .final →
    q = (s.axis n).pos.reportedInt → e = c.kind.distance q m.target → d = c.kind.correctionDirection q m.target →
    ∃ t, exec (.standstillReached n) s = .next t ∧ t.standsStill n = true
      ∧ (e ≤ (l.captured.window : Int) →
          State.Closed n x .reached s.timeBase s t ∧ (t.axis n).seq.state = .idle)
      ∧ ((l.captured.window : Int) < e → l.captured.retries ≤ x.corrections →
          State.Closed n x .missed s.timeBase s t ∧ State.HeldBy n .missed t)
      ∧ ((l.captured.window : Int) < e → x.corrections < l.captured.retries →
          (∀ p, c.takesUp d = some p →
            (c.withinLimits (c.takeUpPoint m.target d) = false →
              State.Closed n x .missed s.timeBase s t ∧ State.HeldBy n .missed t)
            ∧ (c.withinLimits (c.takeUpPoint m.target d) = true →
                ∃ y cut, (t.axis n).seq.executing = some y ∧ y.corrections = x.corrections + 1
                  ∧ y.record = x.record ∧ y.slot = x.slot ∧ y.startTime = x.startTime
                  ∧ y.work = .move
                      { target := m.target
                        leg := some ⟨.takeUp, .correction, d, c.takeUpPoint m.target d, e + c.slack,
                          s.profile x.record.selector, cut⟩
                        plan := [⟨.final, .correction, p, m.target⟩] }
                  ∧ ((t.axis n).seq.state = .pausing ∧ y.legs = x.legs
                      ∨ (t.axis n).seq.state = .creep ∧ y.legs = x.legs + 1)
                  ∧ ((s.axis n).drive.needsPause d = false → (t.axis n).seq.state = .creep)
                  ∧ ((s.axis n).drive.needsPause d = true → (s.axis n).drive.pause ≠ 0 →
                      (t.axis n).seq.state = .pausing)))
          ∧ (c.takesUp d = none →
              ∃ y cut, (t.axis n).seq.executing = some y ∧ y.corrections = x.corrections + 1
                ∧ y.record = x.record ∧ y.slot = x.slot ∧ y.startTime = x.startTime
                ∧ y.work = .move
                    { target := m.target
                      leg := some ⟨.final, .correction, d, m.target, e, s.profile x.record.selector, cut⟩
                      plan := [] }
                ∧ ((t.axis n).seq.state = .pausing ∧ y.legs = x.legs
                    ∨ (t.axis n).seq.state = .creep ∧ y.legs = x.legs + 1)
                ∧ ((s.axis n).drive.needsPause d = false → (t.axis n).seq.state = .creep)
                ∧ ((s.axis n).drive.needsPause d = true → (s.axis n).drive.pause ≠ 0 →
                    (t.axis n).seq.state = .pausing)))

/-- R93, R94, R117, R119: the coast end of a TAKE_UP leg starts the FINAL leg with g0 = S − remainder; with g0 ≤ 0 that leg is
cut at once, counts as driven, and is evaluated in the same event by the window and retries it captured; the coast end of a
search closes it DONE and referenced after its qualifying pulse, and starts the search motion after a back-off. Each leg or
motion that starts waits in PAUSING where the drive stage needs a reversal pause of more than 0 ms (R88, R96, R116). -/
def Obligations.StandstillGoesOn : Prop :=
  ∀ (n : AxisId) (s : State) (x : Executing), (s.axis n).Shaped → s.RestDue n →
    (s.axis n).seq.state = .coasting → (s.axis n).seq.executing = some x →
    (∀ c m l p rest, s.sectionOf n = some c → x.work = .move m → m.leg = some l → l.role = .takeUp →
        m.plan = p :: rest → 0 < (c.slack : Int) - l.togo →
        ∃ t y cut, exec (.standstillReached n) s = .next t ∧ (t.axis n).seq.executing = some y
          ∧ y.corrections = x.corrections
          ∧ y.work = .move
              { target := m.target
                leg := some ⟨p.role, p.cls, p.direction, p.aim, c.slack - l.togo, s.profile x.record.selector, cut⟩
                plan := rest }
          ∧ ((t.axis n).seq.state = .pausing ∧ y.legs = x.legs
              ∨ ((t.axis n).seq.state = .rapid ∨ (t.axis n).seq.state = .creep) ∧ y.legs = x.legs + 1)
          ∧ ((s.axis n).drive.needsPause p.direction = false → (t.axis n).seq.state ≠ .pausing)
          ∧ ((s.axis n).drive.needsPause p.direction = true → (s.axis n).drive.pause ≠ 0 →
              (t.axis n).seq.state = .pausing))
    ∧ (∀ c m l p rest prof q e d, s.sectionOf n = some c → x.work = .move m → m.leg = some l → l.role = .takeUp →
        m.plan = p :: rest → (c.slack : Int) - l.togo ≤ 0 → prof = s.profile x.record.selector →
        q = (s.axis n).pos.reportedInt → e = c.kind.distance q m.target → d = c.kind.correctionDirection q m.target →
        ∃ t, exec (.standstillReached n) s = .next t
          ∧ (e ≤ (prof.window : Int) →
              State.Closed n { x with legs := x.legs + 1 } .reached s.timeBase s t ∧ (t.axis n).seq.state = .idle)
          ∧ ((prof.window : Int) < e → (prof.retries ≤ x.corrections
                ∨ ((c.takesUp d).isSome = true ∧ c.withinLimits (c.takeUpPoint m.target d) = false)) →
              State.Closed n { x with legs := x.legs + 1 } .missed s.timeBase s t ∧ State.HeldBy n .missed t)
          ∧ ((prof.window : Int) < e → x.corrections < prof.retries →
              (c.takesUp d = none ∨ c.withinLimits (c.takeUpPoint m.target d) = true) →
              ∃ y, (t.axis n).seq.executing = some y ∧ y.corrections = x.corrections + 1 ∧ y.record = x.record
                ∧ ((t.axis n).seq.state = .pausing ∧ y.legs = x.legs + 1
                    ∨ (t.axis n).seq.state = .creep ∧ y.legs = x.legs + 2)
                ∧ ((s.axis n).drive.needsPause d = false → (t.axis n).seq.state = .creep)
                ∧ ((s.axis n).drive.needsPause d = true → (s.axis n).drive.pause ≠ 0 →
                    (t.axis n).seq.state = .pausing)))
    ∧ (∀ k, x.work = .search k → k.qualified = true →
        ∃ t, exec (.standstillReached n) s = .next t ∧ (t.axis n).pos.referenced = true
          ∧ State.Closed n x .done s.timeBase s t ∧ (t.axis n).seq.state = .idle ∧ (t.axis n).page.due = true)
    ∧ (∀ k, x.work = .search k → k.qualified = false →
        ∃ t, exec (.standstillReached n) s = .next t
          ∧ ((t.axis n).seq.state = .pausing
                ∧ (t.axis n).seq.executing = some { x with work := .search { k with motion := .search } }
              ∨ (t.axis n).seq.state = .seeking
                ∧ (t.axis n).seq.executing =
                    some { x with work := .search { k with motion := .search }, legs := x.legs + 1 })
          ∧ ((s.axis n).drive.needsPause k.direction = false → (t.axis n).seq.state = .seeking)
          ∧ ((s.axis n).drive.needsPause k.direction = true → (s.axis n).drive.pause ≠ 0 →
              (t.axis n).seq.state = .pausing)
          ∧ (t.axis n).pos.referenced = (s.axis n).pos.referenced)

/-! ### Timers -/

/-- The stall watch that runs out in a driving state stops, and the axis takes STALLED; the move time limit that runs out in
a motion state is taken as TIMED_OUT. -/
def Obligations.WatchdogsStop : Prop :=
  ∀ (n : AxisId) (s : State), (s.axis n).Shaped →
    (∀ p t0, (s.axis n).pos.params = some p → (s.axis n).pos.stallStart = some t0 →
        p.stall ≤ (s.timeBase - t0).toNat → (s.axis n).seq.state.driving = true →
        ∃ t, exec (.stallTimeExpiry n) s = .next t ∧ State.CauseTaken n .stalled .stalled s t
          ∧ (t.axis n).pos.stallStart = none ∧ (t.axis n).pos.referenced = (s.axis n).pos.referenced)
    ∧ (∀ x t0, (s.axis n).seq.executing = some x → (s.axis n).seq.moveExpiry = some t0 →
        (t0 - x.startTime).toNat ≤ (s.timeBase - x.startTime).toNat → (s.axis n).seq.state.inMotion = true →
        ∃ t, exec (.moveTimeLimitExpiry n) s = .next t ∧ State.CauseTaken n .timedOut .timedOut s t)

/-- A dwell closes DONE at its expiry with the expiry as its end, a wait closes WAIT_EXPIRED at its deadline and the axis is
HELD, and the oldest announcement handed to a waiting axis closes it DONE or is taken without effect. -/
def Obligations.WaitsEnd : Prop :=
  ∀ (n : AxisId) (s : State) (x : Executing), (s.axis n).Shaped → (s.axis n).seq.executing = some x →
    (∀ t0, (s.axis n).seq.state = .dwelling → x.work = .dwell t0 →
        (t0 - x.startTime).toNat ≤ (s.timeBase - x.startTime).toNat →
        ∃ t, exec (.dwellExpiry n) s = .next t ∧ State.Closed n x .done t0 s t ∧ (t.axis n).seq.state = .idle)
    ∧ (∀ a t0, (s.axis n).seq.state = .awaiting → x.work = .await a → a.deadline = some t0 →
        (t0 - x.startTime).toNat ≤ (s.timeBase - x.startTime).toNat →
        ∃ t, exec (.awaitDeadline n) s = .next t ∧ State.Closed n x .waitExpired s.timeBase s t
          ∧ State.HeldBy n .waitExpired t)
    ∧ (∀ a e rest, (s.axis n).seq.state = .awaiting → x.work = .await a → a.announced = e :: rest →
        ((e - a.stamp).toNat < 32768 →
          ∃ t, exec (.closureAnnouncement n) s = .next t ∧ State.Closed n x .done s.timeBase s t
            ∧ (t.axis n).seq.state = .idle)
        ∧ (32768 ≤ (e - a.stamp).toNat →
            exec (.closureAnnouncement n) s = .next
              (s.modSeq n fun q =>
                { q with executing := some { x with work := .await { a with announced := rest } } })))

/-- The patrol timer that runs out starts a patrol fetch of slot C + k for stamp E + k with DRY kept, where the fetch
conditions other than DRY clear hold, and else starts again; the report timer makes the page of every axis that is not
DORMANT due and starts again. -/
def Obligations.IntervalTimersExpire : Prop :=
  ∀ (s : State) (c : Setup), s.setup = some c →
    (∀ n t0 sec, (s.axis n).route.patrolStart = some t0 → c.patrol ≤ (s.timeBase - t0).toNat →
        s.sectionOf n = some sec →
        ((s.cmd.controller = .running ∧ (s.axis n).seq.state ≠ .held ∧ (s.axis n).seq.state ≠ .stopping
            ∧ (s.axis n).seq.state ≠ .dormant ∧ (s.axis n).route.staging.length < 2 ∧ s.routeFree n = true) →
          ∃ t, exec (.patrolTimerExpiry n) s = .next t
            ∧ (t.axis n).route =
                { (s.axis n).route with
                  patrolStart := none
                  noticeLatch := false
                  target := some
                    ⟨((s.axis n).route.cursor + (s.axis n).ahead) % sec.length,
                      (s.axis n).route.expected + BitVec.ofNat 16 (s.axis n).ahead⟩ }
            ∧ t.port.waiting.get n = some
                ⟨.fetch, sec.slotAddr (((s.axis n).route.cursor + (s.axis n).ahead) % sec.length), []⟩)
        ∧ (s.fetchReady n = false →
            exec (.patrolTimerExpiry n) s = .next (s.modRoute n fun r => { r with patrolStart := some s.timeBase })))
    ∧ (∀ t0, s.reporter.timerStart = some t0 → c.report ≤ (s.timeBase - t0).toNat →
        ∃ t, exec .reportTimerExpiry s = .next t
          ∧ t = { s with reporter.timerStart := some s.timeBase, axes := t.axes }
          ∧ ∀ n, t.axis n =
              { s.axis n with page.due := (s.axis n).page.due || (s.axis n).seq.state != .dormant })

/-- The end of the reversal pause: the reversal clear flag is set; a request that was held back for it drives in this event. A
PAUSING leg with a distance to go makes its drive decision, by the zones of the table of R90; one without is cut at once and
counts as driven, and at standstill its coast end is taken in the event; a PAUSING search passes to SEEKING. The run line of a
SPLIT axis follows in the event, at once also where the hold time of a direction line that STEER mode left inactive runs, which
is the model's choice (log 31); a STEER axis first changes its direction line, and needs no change where the line, falling or
not, shows the direction (log 35). -/
def Obligations.PauseElapses : Prop :=
  (∀ l : Leg, l.captured.cut ≤ l.captured.slow →
    ((l.captured.slow : Int) < l.togo → l.cls = .first → l.zone = (.rapid, l.captured.cut))
    ∧ ((l.captured.slow : Int) < l.togo → l.cls = .correction → l.zone = (.creep, l.captured.cut))
    ∧ ((l.captured.cut : Int) < l.togo → l.togo ≤ (l.captured.slow : Int) → l.zone = (.creep, l.captured.cut))
    ∧ (l.togo ≤ (l.captured.cut : Int) → l.zone = (.creep, 0)))
  ∧ (∀ (n : AxisId) (s : State) (t0 : Word), (s.axis n).drive.restStart = some t0 → (s.axis n).drive.revClear = false →
    (s.axis n).drive.pause ≤ (s.timeBase - t0).toNat → (s.axis n).drive.running = none →
    ∃ t, exec (.pauseElapsed n) s = .next t
      ∧ ((t.axis n).drive.running = none → (t.axis n).drive.revClear = true)
      ∧ ((t.axis n).drive.running.isSome = true → (t.axis n).drive.revClear = false)
      ∧ (∀ x m l, (s.axis n).seq.state = .pausing → (s.axis n).seq.executing = some x → x.work = .move m →
          m.leg = some l → 0 < l.togo →
            (t.axis n).seq.state = l.zone.1
              ∧ (t.axis n).seq.executing = some
                  { x with
                    work := .move { m with leg := some { l with cutPoint := some l.zone.2 } }
                    legs := x.legs + 1 })
      ∧ (∀ x m l, (s.axis n).seq.state = .pausing → (s.axis n).seq.executing = some x → x.work = .move m →
          m.leg = some l → l.togo ≤ 0 →
            (s.standsStill n = false →
              (t.axis n).seq.state = .coasting
                ∧ (t.axis n).seq.executing = some
                    { x with
                      work := .move { m with leg := some { l with cutPoint := some 0 } }
                      legs := x.legs + 1 })
            ∧ (∀ c e, s.standsStill n = true → l.role = .final → s.sectionOf n = some c →
                e = c.kind.distance (s.axis n).pos.reportedInt m.target →
                (e ≤ (l.captured.window : Int) →
                  State.Closed n { x with legs := x.legs + 1 } .reached s.timeBase s t ∧ (t.axis n).seq.state = .idle)
                ∧ ((l.captured.window : Int) < e → l.captured.retries ≤ x.corrections →
                  State.Closed n { x with legs := x.legs + 1 } .missed s.timeBase s t ∧ State.HeldBy n .missed t)))
      ∧ (∀ x k, (s.axis n).seq.state = .pausing → (s.axis n).seq.executing = some x → x.work = .search k →
          (k.motion = .search ∨ (s.axis n).seq.refHanded = true →
            (t.axis n).seq.state = .seeking
              ∧ (t.axis n).seq.executing = some { x with legs := x.legs + 1 }
              ∧ (t.axis n).pos.referenced = (s.axis n).pos.referenced)
          ∧ (k.motion = .backOff → (s.axis n).seq.refHanded = false → s.standsStill n = false →
            (t.axis n).seq.state = .coasting ∧ (t.axis n).seq.executing = some { x with legs := x.legs + 1 }))
      ∧ (s.cmd.controller = .running → s.xstopHigh = true → (s.axis n).drive.lockout = false →
          (∀ d fast,
            ((s.axis n).seq.request = some (d, fast)
              ∨ (s.axis n).seq.state = .pausing ∧ (t.axis n).seq.request = some (d, fast)) →
            ((s.axis n).drive.mode = .split → (s.axis n).drive.dirDrop = false →
              (t.axis n).drive.running = some d ∧ (t.axis n).drive.rapid = fast ∧ (t.axis n).drive.lastDir = some d)
            ∧ ((s.axis n).drive.mode = .steer → (s.axis n).drive.runRev ≠ (d == .reverse) → (s.axis n).drive.dirHold = false →
                (t.axis n).drive.running = none ∧ (t.axis n).drive.runRev = (d == .reverse)
                  ∧ (t.axis n).drive.dirSetup = true ∧ (t.axis n).drive.lastDir = (s.axis n).drive.lastDir)
            ∧ ((s.axis n).drive.mode = .steer → (s.axis n).drive.runRev ≠ (d == .reverse) → (s.axis n).drive.dirHold = true →
                (t.axis n).drive.running = none ∧ (t.axis n).drive.runRev = (s.axis n).drive.runRev
                  ∧ (t.axis n).drive.lastDir = (s.axis n).drive.lastDir)
            ∧ ((s.axis n).drive.mode = .steer → (s.axis n).drive.runRev = (d == .reverse) → (s.axis n).drive.dirSetup = false →
                (t.axis n).drive.running = some d ∧ (t.axis n).drive.rapid = fast
                  ∧ (t.axis n).drive.lastDir = some d))))

/-- The times of a STEER direction line (R127): when the setup time has passed the conditions of a run line are tested again and
run follows; when the hold time has passed a line that STEER mode has left goes inactive, a direction line that waited for it
changes, and a SPLIT run line that waited for it follows (log 31). The run line wanted is that of the axis's request, or of the
leg or motion whose pause ends in the event on a PAUSING axis. The model's choice (log 35, DESIGN CHOICE; the spec does not say
what a commit back to STEER mode within the hold time does): the line goes inactive at the end of the hold time in STEER mode
too, and the setup time runs from there, with no run and with a forward run wanted. -/
def Obligations.DirectionTimesElapse : Prop :=
  ∀ (n : AxisId) (s : State),
    ((s.axis n).drive.dirSetup = true →
      ∃ t, exec (.directionSetupElapsed n) s = .next t
        ∧ (s.PauseHolds n → (t.axis n).seq.request = (s.axis n).seq.request)
        ∧ (∀ d, (s.axis n).drive.running = some d → s.LineJustified n → (t.axis n).drive.running = some d)
        ∧ ((s.axis n).drive.running = none →
          (∀ d fast,
            ((s.axis n).seq.request = some (d, fast) ∧ (s.axis n).drive.needsPause d = false
              ∨ (s.axis n).seq.state = .pausing ∧ (t.axis n).seq.request = some (d, fast)) →
            s.cmd.controller = .running → s.xstopHigh = true → (s.axis n).drive.lockout = false →
            (s.axis n).drive.mode = .steer →
              ((s.axis n).drive.runRev = (d == .reverse) →
                (t.axis n).drive.running = some d ∧ (t.axis n).drive.rapid = fast ∧ (t.axis n).drive.lastDir = some d)
              ∧ ((s.axis n).drive.runRev ≠ (d == .reverse) →
                (t.axis n).drive.running = none ∧ (t.axis n).drive.lastDir = (s.axis n).drive.lastDir
                  ∧ (t.axis n).drive.runRev = (if (s.axis n).drive.dirHold then (s.axis n).drive.runRev else d == .reverse)
                  ∧ (t.axis n).drive.dirSetup = !(s.axis n).drive.dirHold))
          ∧ ((s.axis n).seq.request = none → (t.axis n).seq.request = none →
              (t.axis n).drive.running = none ∧ (t.axis n).drive.dirSetup = false
                ∧ (t.axis n).drive.runRev = (s.axis n).drive.runRev
                ∧ (t.axis n).drive.lastDir = (s.axis n).drive.lastDir)))
    ∧ ((s.axis n).drive.dirHold = true →
        ∃ t, exec (.directionHoldElapsed n) s = .next t ∧ (t.axis n).drive.dirDrop = false
          ∧ (s.PauseHolds n → (t.axis n).seq.request = (s.axis n).seq.request)
          ∧ (∀ d, (s.axis n).drive.running = some d → (s.axis n).drive.Sound → s.LineJustified n →
              (t.axis n).drive.running = some d ∧ (t.axis n).drive.runRev = (s.axis n).drive.runRev
                ∧ (t.axis n).drive.dirHold = false)
          ∧ ((s.axis n).drive.running = none → (t.axis n).drive.dirHold = false
            ∧ (∀ d fast,
              ((s.axis n).seq.request = some (d, fast) ∧ (s.axis n).drive.needsPause d = false
                ∨ (s.axis n).seq.state = .pausing ∧ (t.axis n).seq.request = some (d, fast)) →
              s.cmd.controller = .running → s.xstopHigh = true → (s.axis n).drive.lockout = false →
                ((s.axis n).drive.mode = .split → (s.axis n).drive.Sound →
                  (t.axis n).drive.running = some d ∧ (t.axis n).drive.rapid = fast ∧ (t.axis n).drive.lastDir = some d)
                ∧ ((s.axis n).drive.mode = .steer → (s.axis n).drive.dirDrop = false →
                    (s.axis n).drive.runRev ≠ (d == .reverse) →
                  (t.axis n).drive.running = none ∧ (t.axis n).drive.runRev = (d == .reverse)
                    ∧ (t.axis n).drive.dirSetup = true ∧ (t.axis n).drive.lastDir = (s.axis n).drive.lastDir)
                ∧ ((s.axis n).drive.mode = .steer → (s.axis n).drive.dirDrop = true → d = .forward →
                  (t.axis n).drive.running = none ∧ (t.axis n).drive.runRev = false
                    ∧ (t.axis n).drive.dirSetup = true ∧ (t.axis n).drive.lastDir = (s.axis n).drive.lastDir))
            ∧ ((s.axis n).seq.request = none → (t.axis n).seq.request = none →
                (t.axis n).drive.running = none ∧ (t.axis n).drive.lastDir = (s.axis n).drive.lastDir
                  ∧ ((s.axis n).drive.dirDrop = true → (t.axis n).drive.runRev = false
                      ∧ ((s.axis n).drive.mode = .steer → (t.axis n).drive.dirSetup = true))
                  ∧ ((s.axis n).drive.dirDrop = false → (t.axis n).drive.runRev = (s.axis n).drive.runRev
                      ∧ (t.axis n).drive.dirSetup = (s.axis n).drive.dirSetup))))

/-- R172: the command unit takes the reports of a pending halt one by one, and the halt completes in the event in which an
axis joins the set and the set holds all four. -/
def Obligations.SettledReportTaken : Prop :=
  ∀ (n : AxisId) (s : State) (h : HaltState) (b : Bool) (rest : List Bool),
    s.cmd.halt = some h → h.reports.get n = b :: rest →
    ((b = true ∧ ∀ m, m ≠ n → h.settled.get m = true) →
      exec (.settledReport n) s = .next
        { s with
          cmd := { s.cmd with
            controller := .loaded, halt := none, result := .done, detail := 0, detailIndex := 0, pendingIndex := none }
          attn := s.attn ||| 0x10 })
    ∧ ((b = false ∨ ∃ m, m ≠ n ∧ h.settled.get m = false) →
        exec (.settledReport n) s = .next
          { s with
            cmd.halt := some { h with settled := h.settled.set n b, reports := h.reports.set n rest } })

/-! ### The memory port -/

/-- The aperture check: a pass names an entry in use that holds the whole range, is OPEN and permits the access; a failure
names the first test that failed, with the entry that holds the first byte. -/
def Obligations.ApertureTests : Prop :=
  ∀ (s : State) (addr : Word) (len : Nat) (write : Bool) (c : Setup), s.setup = some c →
    (∀ i, s.checkAperture addr len write = .ok i →
        (c.apertures.get i).holds addr.toNat len = true ∧ s.apertureOpen.get i = true
          ∧ (write = true → (c.apertures.get i).rights = .readWrite))
    ∧ ((∀ i, (c.apertures.get i).holds addr.toNat len = false) →
        s.checkAperture addr len write = .error ⟨.outside, c.entryFor addr.toNat 1⟩)
    ∧ (∀ i, (c.apertures.get i).holds addr.toNat len = true →
        (∀ j, j ≠ i → (c.apertures.get j).holds addr.toNat len = false) →
          s.checkAperture addr len write =
            if s.apertureOpen.get i = false then .error ⟨.closed, some i⟩
            else if write = true ∧ (c.apertures.get i).rights ≠ .readWrite then .error ⟨.readOnly, some i⟩
            else .ok i)
    ∧ (∀ a : Aperture, a.holds addr.toNat len = true ↔
        a.rights ≠ .none ∧ a.base.toNat ≤ addr.toNat ∧ addr.toNat + len ≤ a.limit.toNat + 1)

/-- The arbiter grants a free port to the first requester with a request that follows the pointer in the ring (setup loader,
route units 0 to 3, status reporter, and round again), and sets the pointer to it; a setup chunk is driven at the load
address + 32·j, unchecked, in ascending order. -/
def Obligations.GrantFollowsRing : Prop :=
  ∀ (s : State) (ring : List Requester) (i k : Nat) (r : Requester), s.port.access = none →
    ring = [.loader, .route .a0, .route .a1, .route .a2, .route .a3, .reporter] → ring[i]? = some s.port.pointer →
    1 ≤ k → k ≤ 6 → ring[(i + k) % 6]? = some r → s.hasRequest r = true →
    (∀ j q, 1 ≤ j → j < k → ring[(i + j) % 6]? = some q → s.hasRequest q = false) →
    ∃ t, exec .arbiterGrant s = .next t ∧ t.port.pointer = r
      ∧ (r = .loader → ∀ j, s.port.chunk = some j →
          t = { s with
            port.chunk := none
            port.pointer := .loader
            port.access := some
              ⟨.chunk j, none, (List.range 8).map fun i =>
                ⟨s.cmd.loadAddress.getD 0 + BitVec.ofNat 32 (32 * j) + BitVec.ofNat 32 (4 * i), none⟩, false⟩ })

/-- The grant of a route unit's request: one that passes the check is driven at part-side address + offset, in the transfer
order of its words; one that is refused frees the port in the event, and its requester acts as on a bus error. -/
def Obligations.GrantRouteAccess : Prop :=
  ∀ (s : State) (n : AxisId) (q : RouteRequest) (c : Setup), s.port.access = none →
    s.nextRequester = some (.route n) → s.port.waiting.get n = some q → s.setup = some c →
    (∀ i, s.checkAperture q.addr q.kind.bytes q.kind.isWrite = .ok i →
        exec .arbiterGrant s = .next
          { s with
            port.waiting := s.port.waiting.set n none
            port.pointer := .route n
            port.access := some
              ⟨.route n q.kind, some i,
                if q.kind.isWrite then
                  q.data.map fun d => ⟨q.addr + (c.apertures.get i).offset + BitVec.ofNat 32 d.1, some d.2⟩
                else
                  (List.range 5).map fun k =>
                    ⟨q.addr + (c.apertures.get i).offset + BitVec.ofNat 32 (4 * k), none⟩,
                false⟩ })
    ∧ (∀ f, s.checkAperture q.addr q.kind.bytes q.kind.isWrite = .error f →
        ∃ t, exec .arbiterGrant s = .next t ∧ t.port.access = none
          ∧ ((s.axis n).Shaped → q.kind = .fetch → (s.axis n).route.target.isSome = true →
              State.CauseTaken n .accessFetch .accessFailed s t)
          ∧ ((s.axis n).Shaped → q.kind = .verification → (s.axis n).seq.state = .idle →
              (s.axis n).seq.verifying = true → (t.axis n).seq.executing = none
                ∧ State.HeldBy n .accessFetch t)
          ∧ (∀ e, (s.axis n).Shaped →
              (q.kind = .closureReread ∧ (s.axis n).route.closure = some ⟨e, .reread⟩
                ∨ q.kind = .outcomeWrite ∧ (s.axis n).route.closure = some ⟨e, .write⟩) →
              (t.axis n).seq.latch = some e ∧ (t.axis n).route.closure = none)
          ∧ (∀ e, (s.axis n).seq.latch = some e → (s.axis n).seq.state = .held →
              (q.kind = .deliveryReread ∧ (s.axis n).seq.delivery = some .reread
                ∨ q.kind = .deliveryWrite ∧ (s.axis n).seq.delivery = some .write) →
                State.JoinsLater n .accessClose s t ∧ (t.axis n).seq.latch = some e
                  ∧ (t.axis n).seq.delivery = none ∧ t.cmd.result = .refusedAccess
                  ∧ t.cmd.detail = f.reason.code ∧ t.cmd.detailIndex = entryCode f.entry))

/-- The grant of the status reporter: the first due axis after the one last written, its page composed with a stepped serial
and every field of the table of 11.3 at its offset, and written in ascending order, head and tail equal; a refused page is a
failed page write. After the composition, in the same event, the axis takes the repeated ENCODER_LOST notice that waited for it,
and what its position unit handed after it: the page composed shows IDLE, and the one that its entry to HELD makes due follows
(R110, log 9). The codes of axis states and fault kinds are those of 11.3. -/
def Obligations.GrantComposesPage : Prop :=
  ([.dormant, .idle, .rapid, .creep, .coasting, .pausing, .seeking, .dwelling, .awaiting, .stopping, .held] :
      List AxisState).map AxisState.code = [0, 1, 2, 3, 4, 5, 6, 7, 8, 9, 10]
  ∧ ([.missed, .searchExhausted, .waitExpired, .rejected, .aborted, .lineStop, .stalled, .timedOut, .slipped, .encoderLost,
      .accessFetch, .accessStatus, .accessClose, .tornSlot] : List FaultKind).map FaultKind.code =
        [1, 2, 3, 4, 5, 6, 7, 8, 9, 10, 11, 12, 13, 14]
  ∧ (∀ (k : FaultKind) (i : Nat), i < 16 → (k.bit.getLsbD i = true ↔ i + 1 = k.code))
  ∧ ∀ (s : State) (n : AxisId) (c : Setup) (sec : Section), s.port.access = none →
    s.nextRequester = some .reporter → s.nextPage = some n → s.setup = some c → c.sections.get n = some sec →
    (∀ i, s.checkAperture sec.pageAddr 64 true = .ok i →
        ∃ t ws, exec .arbiterGrant s = .next t
          ∧ ((s.axis n).seq.handed = [] → t.axis n =
              { s.axis n with page.due := false, page.serial := (s.axis n).page.serial + 1 })
          ∧ ((s.axis n).seq.handed ≠ [] → (s.axis n).Shaped → State.HandedTaken n s t
              ∧ (t.axis n).pos.referenced = (s.axis n).pos.referenced ∧ (t.axis n).pos.lossMark = (s.axis n).pos.lossMark
              ∧ (t.axis n).page =
                  { (s.axis n).page with
                    due := decide ((s.axis n).seq.state = .idle), serial := (s.axis n).page.serial + 1 }
              ∧ (∀ q, s.port.waiting.get n = some q → t.port.waiting.get n = some q))
          ∧ t.reporter.lastWritten = n
          ∧ t.reporter.writing =
              some ⟨n, s.cmd.result == .pending && s.cmd.lastCode == 0x13 && s.cmd.pendingIndex == some n.toIndex⟩
          ∧ ws = { s.axis n with page.serial := (s.axis n).page.serial + 1 }.pageWords s.timeBase ∧ ws.length = 16
          ∧ ws.getD 0 0 = (s.axis n).page.serial + 1 ∧ ws.getD 15 0 = (s.axis n).page.serial + 1
          ∧ (ws.getD 1 0).extractLsb' 0 8 = (s.axis n).seq.state.code
          ∧ (ws.getD 1 0).extractLsb' 8 8 = (if (s.axis n).pos.referenced = true then 1 else 0)
          ∧ ((s.axis n).seq.heldCause = none → (ws.getD 1 0).extractLsb' 16 8 = 0)
          ∧ (∀ k, (s.axis n).seq.heldCause = some k → ((ws.getD 1 0).extractLsb' 16 8).toNat = k.code)
          ∧ (ws.getD 1 0).extractLsb' 24 8 = BitVec.ofNat 8 (s.axis n).route.staging.length
          ∧ (∀ e, (s.axis n).pos.counting = some ⟨e, .linear⟩ → ws.getD 2 0 = (s.axis n).pos.raw + (s.axis n).pos.shift)
          ∧ (∀ e m, (s.axis n).pos.counting = some ⟨e, .rotary m⟩ →
              ws.getD 2 0 = BitVec.ofInt 32 ((((s.axis n).pos.raw.toNat : Int) + (s.axis n).pos.shift.toInt) % (m : Int)))
          ∧ (ws.getD 5 0).extractLsb' 0 16 = (s.axis n).route.expected
          ∧ ((s.axis n).seq.executing = none → (ws.getD 5 0).extractLsb' 16 16 = 0)
          ∧ (∀ x, (s.axis n).seq.executing = some x → (ws.getD 5 0).extractLsb' 16 16 = x.record.stamp)
          ∧ (ws.getD 6 0).getLsbD 0 = (s.axis n).seq.executing.isSome ∧ (ws.getD 6 0).getLsbD 1 = (s.axis n).route.dry
          ∧ (ws.getD 6 0).getLsbD 2 = (s.axis n).seq.latch.isSome ∧ (ws.getD 6 0).getLsbD 3 = (s.axis n).page.tornSeen
          ∧ (ws.getD 6 0).extractLsb' 4 12 = 0 ∧ (ws.getD 6 0).extractLsb' 16 16 = (s.axis n).seq.later
          ∧ ws.getD 9 0 = (s.axis n).page.lastTag
          ∧ (ws.getD 10 0).extractLsb' 0 16 = (s.axis n).page.tornStamp
          ∧ (ws.getD 10 0).extractLsb' 16 8 = (s.axis n).page.tornCode ∧ (ws.getD 10 0).extractLsb' 24 8 = 0
          ∧ (∀ k, 11 ≤ k → k ≤ 14 → ws.getD k 0 = 0)
          ∧ ws.getD 2 0 = (s.axis n).pos.reported ∧ ws.getD 3 0 = (s.axis n).pos.raw
          ∧ ws.getD 4 0 = (s.axis n).pos.shift ∧ ws.getD 7 0 = (s.axis n).pos.lastSpan ∧ ws.getD 8 0 = s.timeBase
          ∧ t.port.access = some
              ⟨.page n, some i,
                (List.range 16).map fun k =>
                  ⟨sec.pageAddr + (c.apertures.get i).offset + BitVec.ofNat 32 (4 * k), some (ws.getD k 0)⟩,
                false⟩)
    ∧ (∀ f, s.checkAperture sec.pageAddr 64 true = .error f → (s.axis n).Shaped →
        ∃ t, exec .arbiterGrant s = .next t ∧ t.port.access = none ∧ (t.axis n).page.stale = true
          ∧ t.attn &&& axisAttnBit n = axisAttnBit n
          ∧ ((s.axis n).seq.handed = [] → State.CauseTaken n .accessStatus .accessFailed s t)
          ∧ (∀ h rest, (s.axis n).seq.handed = h :: rest → (t.axis n).seq.handed = [] ∧ (t.axis n).seq.state = .held
              ∧ (t.axis n).seq.executing = none
              ∧ ((s.axis n).seq.state = .idle → (t.axis n).seq.heldCause = some h.kind
                  ∧ (t.axis n).seq.later =
                      rest.foldl (fun set g => set ||| g.kind.bit) (s.axis n).seq.later ||| FaultKind.accessStatus.bit)
              ∧ ((s.axis n).seq.state = .held → (t.axis n).seq.heldCause = (s.axis n).seq.heldCause
                  ∧ (t.axis n).seq.later =
                      (h :: rest).foldl (fun set g => set ||| g.kind.bit) (s.axis n).seq.later
                        ||| FaultKind.accessStatus.bit))
          ∧ (s.cmd.result = .pending → s.cmd.lastCode = 0x13 → s.cmd.pendingIndex = some n.toIndex →
              t.cmd.result = .refusedAccess ∧ t.cmd.detail = f.reason.code
                ∧ t.cmd.detailIndex = entryCode f.entry))

/-- R142: every transfer that a grant drives, but for a setup chunk's, lies within one entry that is in use and OPEN in the
event of the grant, at part-side address + offset, and a write within a READ_WRITE entry. -/
def Obligations.GrantsStayInApertures : Prop :=
  ∀ (s t : State) (a : Access), s.PortSound → s.port.access = none → exec .arbiterGrant s = .next t →
    t.port.access = some a →
      (∃ j, a.kind = .chunk j)
      ∨ ∃ c i, s.setup = some c ∧ a.entry = some i ∧ s.apertureOpen.get i = true
          ∧ (c.apertures.get i).rights ≠ .none
          ∧ ∀ tr ∈ a.transfers, (tr.data.isSome = true → (c.apertures.get i).rights = .readWrite)
              ∧ ∃ p : Nat, (c.apertures.get i).base.toNat ≤ p ∧ p + 3 ≤ (c.apertures.get i).limit.toNat
                  ∧ tr.busAddr = BitVec.ofNat 32 p + (c.apertures.get i).offset

/-- R143: a transfer without an answer is taken as a bus error of the access in progress; the port is free in that event, and
a failed setup chunk fails the load. -/
def Obligations.TimeoutIsBusError : Prop :=
  ∀ (s : State) (a : Access), s.port.access = some a →
    (∃ t, exec .transferTimeout s = .next t ∧ t.port.access = none)
    ∧ (a.dropped = true → exec .transferTimeout s = .next s.freePort)
    ∧ (∀ n, a.kind = .route n .fetch → exec .transferTimeout s = exec (.fetchEnd n .busError) s)
    ∧ (∀ n, a.kind = .route n .verification → exec .transferTimeout s = exec (.verificationRereadEnd n .busError) s)
    ∧ (∀ n, a.kind = .route n .closureReread → exec .transferTimeout s = exec (.closureRereadEnd n .busError) s)
    ∧ (∀ n, a.kind = .route n .outcomeWrite → exec .transferTimeout s = exec (.outcomeWriteEnd n .busError) s)
    ∧ (∀ n, a.kind = .route n .deliveryReread → exec .transferTimeout s = exec (.deliveryRereadEnd n .busError) s)
    ∧ (∀ n, a.kind = .route n .deliveryWrite → exec .transferTimeout s = exec (.deliveryWriteEnd n .busError) s)
    ∧ (∀ n, a.kind = .page n → exec .transferTimeout s = exec (.pageWriteEnd .busError) s)
    ∧ (∀ j, a.kind = .chunk j → exec .transferTimeout s = exec (.setupChunkEnd .busError) s)

/-! ### The ends of a route unit's accesses -/

/-- The three ends of a fetch, and the end of a voided one, in every axis state (R9, R10, R24); PAUSING is read where the pause
is not over. A published record joins staging, and closure work or a verification that is outstanding follows the fetch (R8);
an IDLE axis with neither and with nothing staged takes the record at once, but where a repeated ENCODER_LOST notice waits it
takes none (R110, log 9). The end of an access that a reset has dropped frees the port and is handed to nobody (R25, R148). -/
def Obligations.FetchEnds : Prop :=
  (∀ (n : AxisId) (s : State) (a : Access), s.port.access = some a → a.kind = .route n .fetch → a.dropped = true →
    ∀ answer, exec (.fetchEnd n answer) s = .next { s with port.access := none })
  ∧ ∀ (n : AxisId) (s : State) (a : Access) (c : Setup) (sec : Section),
    s.port.access = some a → a.kind = .route n .fetch → a.dropped = false → s.setup = some c →
    c.sections.get n = some sec → (s.axis n).Shaped → s.PauseHolds n →
    (∀ tg r, (s.axis n).route.target = some tg →
        (r.stamp = tg.stamp →
          ∃ t, exec (.fetchEnd n (.data r)) s = .next t ∧ t.port.access = none
            ∧ (t.axis n).route.dry = false ∧ (t.axis n).route.patrolStart = none
            ∧ (t.axis n).route.expected = (s.axis n).route.expected ∧ (t.axis n).route.cursor = (s.axis n).route.cursor
            ∧ (t.axis n).route.closure = (s.axis n).route.closure
            ∧ (t.axis n).pos = (s.axis n).pos ∧ (t.axis n).page = (s.axis n).page ∧ t.attn = s.attn
            ∧ ((s.axis n).seq.state ≠ .idle ∨ (s.axis n).seq.handed ≠ [] ∨ s.cmd.controller ≠ .running
                  ∨ (s.axis n).seq.executing.isSome = true ∨ (s.axis n).route.closure.isSome = true →
                (t.axis n).route.staging = (s.axis n).route.staging ++ [⟨tg.slot, r⟩]
                  ∧ (t.axis n).seq = (s.axis n).seq)
            ∧ (∀ e, (s.axis n).route.closure = some ⟨e, .reread⟩ → s.port.waiting.get n = none →
                t.port.waiting.get n = some ⟨.closureReread, sec.slotAddr e.slot, []⟩)
            ∧ (∀ x, (s.axis n).seq.executing = some x → x.work = .verifying → s.port.waiting.get n = none →
                (s.axis n).seq.delivery = none →
                  t.port.waiting.get n = some ⟨.verification, sec.slotAddr x.slot, []⟩)
            ∧ ((s.axis n).seq.state = .idle → (s.axis n).seq.handed = [] → s.cmd.controller = .running →
                (s.axis n).route.staging = [] → (s.axis n).seq.executing = none →
                (s.axis n).route.closure = none → s.port.waiting.get n = none →
                (s.axis n).seq.delivery = none →
                (t.axis n).route.staging = []
                  ∧ (∃ x, (t.axis n).seq.executing = some x ∧ x.record = r ∧ x.slot = tg.slot ∧ x.work = .verifying)
                  ∧ t.port.waiting.get n = some ⟨.verification, sec.slotAddr tg.slot, []⟩))
        ∧ (r.stamp ≠ tg.stamp →
            ∃ t, exec (.fetchEnd n (.data r)) s = .next t ∧ t.port.access = none
              ∧ (¬ s.TakesHead n →
                  (t.axis n).route.staging = (s.axis n).route.staging ∧ (t.axis n).seq = (s.axis n).seq)
              ∧ ((s.axis n).route.noticeLatch = false →
                  (t.axis n).route.dry = true ∧ (t.axis n).route.target = none
                    ∧ (t.axis n).route.patrolStart = (if c.patrol = 0 then none else some s.timeBase)
                    ∧ ((s.axis n).route.dry = false → c.dryNotify.getLsbD n.toNat = true →
                        t.attn &&& axisAttnBit n = axisAttnBit n))
              ∧ ((s.axis n).route.noticeLatch = true → s.cmd.controller = .running →
                  (s.axis n).seq.state.inMotion = true ∨ (s.axis n).seq.state = .idle ∨ (s.axis n).seq.state = .dwelling
                    ∨ (s.axis n).seq.state = .awaiting →
                  ¬ s.TakesHead n → (s.axis n).seq.verifying = false → (s.axis n).route.closure = none →
                  (s.axis n).route.staging.length < 2 → (s.axis n).route.dry = false →
                  (s.axis n).seq.delivery = none → s.port.waiting.get n = none →
                    (t.axis n).route.target = some
                        ⟨((s.axis n).route.cursor + (s.axis n).ahead) % sec.length,
                          (s.axis n).route.expected + BitVec.ofNat 16 (s.axis n).ahead⟩
                      ∧ (t.axis n).route.noticeLatch = false ∧ (t.axis n).route.dry = false)))
    ∧ ((s.axis n).route.target.isSome = true →
        ∃ t, exec (.fetchEnd n .busError) s = .next t ∧ t.port.access = none
          ∧ State.CauseTaken n .accessFetch .accessFailed s t)
    ∧ ((s.axis n).route.target = none → ¬ s.TakesHead n →
        ∀ answer, ∃ t, exec (.fetchEnd n answer) s = .next t ∧ t.port.access = none
          ∧ (t.axis n).seq = (s.axis n).seq ∧ (t.axis n).pos = (s.axis n).pos ∧ (t.axis n).page = (s.axis n).page
          ∧ t.attn = s.attn ∧ (t.axis n).route.staging = (s.axis n).route.staging
          ∧ (t.axis n).route.dry = (s.axis n).route.dry ∧ (t.axis n).route.patrolStart = (s.axis n).route.patrolStart
          ∧ (t.axis n).route.expected = (s.axis n).route.expected ∧ (t.axis n).route.cursor = (s.axis n).route.cursor
          ∧ (s.cmd.controller ≠ .running → (t.axis n).route = (s.axis n).route)
          ∧ (s.cmd.controller = .running → (s.axis n).seq.state = .idle → (s.axis n).seq.executing = none →
              (s.axis n).route.closure = none → (s.axis n).route.staging = [] → (s.axis n).route.dry = false →
              (s.axis n).seq.delivery = none → s.port.waiting.get n = none →
                (t.axis n).route.target = some ⟨(s.axis n).route.cursor % sec.length, (s.axis n).route.expected⟩
                  ∧ (t.axis n).route.noticeLatch = false))
    ∧ ((s.axis n).route.target = none → (s.axis n).seq.state = .held ∨ (s.axis n).seq.state = .stopping →
        ∀ answer, ∃ t, exec (.fetchEnd n answer) s = .next t ∧ t.port.access = none
          ∧ (t.axis n).route = (s.axis n).route ∧ (t.axis n).seq = (s.axis n).seq)

/-- The end of a verification re-read: equal bytes start the record, and the first of the five checks of R29 to R31 that fails
closes it with its rejection code; bytes that differ are a torn slot, counted as closed without an outcome and announced to the
axes that wait for the axis (R17, R48); a failure puts the record back. The answer to a re-read whose record was put back
meanwhile is dropped (R18), and so is the end of an access that a reset has dropped, which frees the port alone (R25, R148). -/
def Obligations.VerificationEnds : Prop :=
  (∀ (n : AxisId) (s : State) (a : Access), s.port.access = some a → a.kind = .route n .verification →
    (a.dropped = true → ∀ answer, exec (.verificationRereadEnd n answer) s = .next { s with port.access := none })
    ∧ (a.dropped = false → (s.axis n).Shaped → s.PauseHolds n → (s.axis n).seq.verifying = false → ¬ s.TakesHead n →
        ∀ answer, ∃ t, exec (.verificationRereadEnd n answer) s = .next t ∧ t.port.access = none
          ∧ (t.axis n).seq = (s.axis n).seq ∧ (t.axis n).pos = (s.axis n).pos ∧ (t.axis n).page = (s.axis n).page
          ∧ t.attn = s.attn ∧ t.setup = s.setup
          ∧ (t.axis n).route =
              { (s.axis n).route with
                target := (t.axis n).route.target, noticeLatch := (t.axis n).route.noticeLatch }))
  ∧ ∀ (n : AxisId) (s : State) (a : Access) (x : Executing) (sec : Section),
    s.port.access = some a → a.kind = .route n .verification → a.dropped = false → (s.axis n).Shaped →
    (s.axis n).seq.state = .idle → (s.axis n).seq.executing = some x → s.sectionOf n = some sec →
    (∀ r, (∀ o, s.validate n sec r = some o ↔ FirstFailure (s.recordChecks n sec r) o)
        ∧ (s.validate n sec r = none ↔ ∀ q ∈ s.recordChecks n sec r, ¬ q.1))
    ∧ (∀ o, FirstFailure (s.recordChecks n sec x.record) o →
        ∃ t, exec (.verificationRereadEnd n (.data x.record)) s = .next t ∧ t.port.access = none
          ∧ State.Closed n { x with startTime := s.timeBase, legs := 0, corrections := 0 } o s.timeBase s t
          ∧ State.HeldBy n .rejected t)
    ∧ (∀ r, r ≠ x.record →
        ∃ t, exec (.verificationRereadEnd n (.data r)) s = .next t ∧ t.port.access = none
          ∧ State.HeldBy n .tornSlot t ∧ (t.axis n).seq.executing = none ∧ (t.axis n).route.closure = none
          ∧ State.Announced n s t
          ∧ (t.axis n).route.expected = (s.axis n).route.expected + 1
          ∧ (t.axis n).route.cursor = ((s.axis n).route.cursor + 1) % sec.length
          ∧ (t.axis n).page.tornStamp = x.record.stamp ∧ (t.axis n).page.tornCode = 0
          ∧ (t.axis n).page.tornSeen = true ∧ (t.axis n).page.due = true
          ∧ (t.axis n).page.lastTag = (s.axis n).page.lastTag)
    ∧ (∃ t, exec (.verificationRereadEnd n .busError) s = .next t ∧ t.port.access = none
        ∧ State.HeldBy n .accessFetch t ∧ (t.axis n).seq.executing = none
        ∧ (t.axis n).route.expected = (s.axis n).route.expected
        ∧ (t.axis n).route.cursor = (s.axis n).route.cursor)

/-- The records that close DONE or REACHED in the event of their execution start: SET_SHIFT, a SOFT reference, RETUNE, an
AWAIT that is satisfied, a move within its window at standstill. A RETUNE changes the one field of the profile that its
argument A names: 0 the slow distance, 1 the cut distance, 2 the window, 3 the retries. -/
def Obligations.RecordsCloseAtStart : Prop :=
  ∀ (n : AxisId) (s : State) (a : Access) (x y : Executing) (sec : Section),
    s.port.access = some a → a.kind = .route n .verification → a.dropped = false → (s.axis n).Shaped →
    (s.axis n).pos.Sound → (s.axis n).pos.counting.map Counting.kind = some sec.kind →
    (s.axis n).seq.state = .idle → (s.axis n).seq.executing = some x →
    s.sectionOf n = some sec → s.validate n sec x.record = none →
    y = { x with startTime := s.timeBase, legs := 0, corrections := 0 } →
    ∃ t, exec (.verificationRereadEnd n (.data x.record)) s = .next t
      ∧ (WaypointKind.ofCode x.record.kind = some .setShift →
          State.Closed n y .done s.timeBase s t ∧ (t.axis n).seq.state = .idle
            ∧ (t.axis n).pos = { (s.axis n).pos with shift := x.record.w2 })
      ∧ (WaypointKind.ofCode x.record.kind = some .seekReference → x.record.selector = 2 →
          State.Closed n y .done s.timeBase s t ∧ (t.axis n).seq.state = .idle
            ∧ (t.axis n).pos.referenced = true ∧ (t.axis n).pos.span = none
            ∧ (t.axis n).pos.shift = (s.axis n).pos.shift
            ∧ (t.axis n).pos.reportedInt =
                (match sec.kind with
                  | .linear => x.record.argA
                  | .rotary m => x.record.argA % (m : Int)))
      ∧ (∀ i c, WaypointKind.ofCode x.record.kind = some .retune → ProfileId.ofSelector x.record.selector = some i →
          s.setup = some c →
          State.Closed n y .done s.timeBase s t ∧ (t.axis n).seq.state = .idle
            ∧ t.setup = some
                { c with
                  profiles := c.profiles.set i
                    { slow := if x.record.argA = 0 then x.record.argB else (c.profiles.get i).slow
                      cut := if x.record.argA = 1 then x.record.argB else (c.profiles.get i).cut
                      window := if x.record.argA = 2 then x.record.argB else (c.profiles.get i).window
                      retries := if x.record.argA = 3 then x.record.argB else (c.profiles.get i).retries } }
            ∧ (t.axis n).pos = (s.axis n).pos)
      ∧ (∀ k, WaypointKind.ofCode x.record.kind = some .await → AxisId.ofIndex x.record.selector = some k →
          ((s.axis k).route.expected - 1 - x.record.awaitStamp).toNat < 32768 →
          State.Closed n y .done s.timeBase s t ∧ (t.axis n).seq.state = .idle ∧ (t.axis n).pos = (s.axis n).pos)
      ∧ (∀ k, (k = .moveTo ∨ k = .moveBy) → WaypointKind.ofCode x.record.kind = some k → s.standsStill n = true →
          sec.kind.distance (s.axis n).pos.reportedInt (sec.moveTarget k x.record.argA (s.axis n).pos.reportedInt)
            ≤ ((s.profile x.record.selector).window : Int) →
          State.Closed n y .reached s.timeBase s t ∧ (t.axis n).seq.state = .idle ∧ (t.axis n).pos = (s.axis n).pos)

/-- The records that take their axis into another state: DWELL, an AWAIT that is not satisfied, a move with its first plan, a
search with its first motion; the move time limit timer of a move and a search starts. What the plan of a move is computed from,
on a linear axis, on a rotary axis and for MOVE_BY: target, direction, travel, distance, direction of a correction, take-up leg
and take-up point. -/
def Obligations.RecordsStart : Prop :=
  (∀ c : Section, c.kind = .linear →
    (∀ a p : Int, c.moveTarget .moveTo a p = a ∧ c.moveTarget .moveBy a p = p + a
      ∧ (∀ policy, (p < a → c.moveDirection .moveTo policy a p = .forward)
          ∧ (a < p → c.moveDirection .moveTo policy a p = .reverse)
          ∧ (a = p → c.moveDirection .moveTo policy a p = (match c.side with | some side => side | none => .forward)))
      ∧ (∀ d, c.moveTravel .moveTo d a p = |a - p|))
    ∧ ∀ q t : Int, c.kind.distance q t = |q - t| ∧ (q < t → c.kind.correctionDirection q t = .forward)
        ∧ (t < q → c.kind.correctionDirection q t = .reverse)
        ∧ c.takeUpPoint t .forward = t + (c.slack : Int) ∧ c.takeUpPoint t .reverse = t - (c.slack : Int))
  ∧ (∀ (c : Section) (m : Nat), c.kind = .rotary m → 0 < m →
    (∀ a p f r : Int, f = (a - p) % (m : Int) → r = (p - a) % (m : Int) →
      c.moveTarget .moveTo a p = a ∧ c.moveTarget .moveBy a p = (p + a) % (m : Int)
        ∧ c.moveDirection .moveTo 1 a p = .forward ∧ c.moveDirection .moveTo 2 a p = .reverse
        ∧ (f < r → c.moveDirection .moveTo 0 a p = .forward)
        ∧ (r < f → c.moveDirection .moveTo 0 a p = .reverse)
        ∧ (f = r → 2 * f = (m : Int) → c.moveDirection .moveTo 0 a p = .forward)
        ∧ (f = 0 → r = 0 →
            c.moveDirection .moveTo 0 a p = (match c.side with | some side => side | none => .forward))
        ∧ c.moveTravel .moveTo .forward a p = f ∧ c.moveTravel .moveTo .reverse a p = r)
    ∧ ∀ q t f r : Int, f = (t - q) % (m : Int) → r = (q - t) % (m : Int) →
        (f ≤ r → c.kind.distance q t = f) ∧ (r ≤ f → c.kind.distance q t = r)
        ∧ (f < r → c.kind.correctionDirection q t = .forward) ∧ (r < f → c.kind.correctionDirection q t = .reverse)
        ∧ (f = r → c.kind.correctionDirection q t = .forward)
        ∧ c.takeUpPoint t .forward = (t + (c.slack : Int)) % (m : Int)
        ∧ c.takeUpPoint t .reverse = (t - (c.slack : Int)) % (m : Int))
  ∧ (∀ (c : Section) (policy : Nat) (a p : Int),
      (0 < a → c.moveDirection .moveBy policy a p = .forward) ∧ (a < 0 → c.moveDirection .moveBy policy a p = .reverse)
        ∧ (a = 0 → c.moveDirection .moveBy policy a p = (match c.side with | some side => side | none => .forward))
        ∧ (∀ d, c.moveTravel .moveBy d a p = |a|)
        ∧ ∀ d side, c.takesUp d = some side ↔ c.side = some side ∧ 0 < c.slack ∧ d ≠ side)
  ∧ ∀ (n : AxisId) (s : State) (a : Access) (x : Executing) (sec : Section),
    s.port.access = some a → a.kind = .route n .verification → a.dropped = false → (s.axis n).Shaped →
    (s.axis n).seq.state = .idle → (s.axis n).seq.executing = some x →
    s.sectionOf n = some sec → s.validate n sec x.record = none →
    ∃ t, exec (.verificationRereadEnd n (.data x.record)) s = .next t ∧ t.port.access = none
      ∧ (WaypointKind.ofCode x.record.kind = some .dwell →
          (t.axis n).seq.state = .dwelling ∧ (t.axis n).seq.moveExpiry = (s.axis n).seq.moveExpiry
            ∧ (t.axis n).seq.executing = some
                { x with
                  startTime := s.timeBase, legs := 0, corrections := 0, work := .dwell (s.timeBase + x.record.w2) })
      ∧ (∀ k, WaypointKind.ofCode x.record.kind = some .await → AxisId.ofIndex x.record.selector = some k →
          32768 ≤ ((s.axis k).route.expected - 1 - x.record.awaitStamp).toNat →
          (t.axis n).seq.state = .awaiting
            ∧ (t.axis n).seq.executing = some
                { x with
                  startTime := s.timeBase, legs := 0, corrections := 0
                  work := .await
                    ⟨k, x.record.awaitStamp,
                      if x.record.w3 = 0 then none else some (s.timeBase + x.record.w3), []⟩ })
      ∧ (∀ k p w d g far target, (k = .moveTo ∨ k = .moveBy) → WaypointKind.ofCode x.record.kind = some k →
          p = (s.axis n).pos.reportedInt → w = (s.profile x.record.selector).window →
          target = sec.moveTarget k x.record.argA p → (far = true ↔ (w : Int) < sec.kind.distance p target) →
          far = true ∨ s.standsStill n = false →
          d = sec.moveDirection k x.record.directionField x.record.argA p →
          g = sec.moveTravel k d x.record.argA p →
          (t.axis n).seq.moveExpiry =
              (if sec.timeLimit = 0 then none else some (s.timeBase + BitVec.ofNat 32 (100 * sec.timeLimit)))
            ∧ ∀ (l : Leg) (plan : List PlannedLeg),
              (far = false ∨ sec.takesUp d = none →
                l = ⟨.final, .first, d, target, g, s.profile x.record.selector, none⟩ ∧ plan = []) →
              (∀ side, far = true → sec.takesUp d = some side →
                l = ⟨.takeUp, .first, d, sec.takeUpPoint target d, g + sec.slack, s.profile x.record.selector, none⟩
                  ∧ plan = [⟨.final, .first, side, target⟩]) →
              ∃ cut legs,
                (t.axis n).seq.executing = some
                  { x with
                    startTime := s.timeBase, legs := legs, corrections := 0
                    work := .move ⟨target, some { l with cutPoint := cut }, plan⟩ }
                ∧ (0 < l.togo →
                    ((t.axis n).seq.state = .pausing ∧ legs = 0 ∧ cut = none
                      ∨ (t.axis n).seq.state = l.zone.1 ∧ legs = 1 ∧ cut = some l.zone.2)
                    ∧ ((s.axis n).drive.needsPause d = false → (t.axis n).seq.state ≠ .pausing)
                    ∧ ((s.axis n).drive.needsPause d = true → (s.axis n).drive.pause ≠ 0 →
                        (t.axis n).seq.state = .pausing))
                ∧ (l.togo ≤ 0 → (t.axis n).seq.state = .coasting ∧ legs = 1 ∧ cut = some 0))
      ∧ (∀ d, WaypointKind.ofCode x.record.kind = some .seekReference → x.record.selector = 0 ∨ x.record.selector = 1 →
          x.record.directionField = 1 ∧ d = .forward ∨ x.record.directionField = 2 ∧ d = .reverse →
          (t.axis n).pos.referenced = false
            ∧ (t.axis n).seq.moveExpiry =
                (if sec.timeLimit = 0 then none else some (s.timeBase + BitVec.ofNat 32 (100 * sec.timeLimit)))
            ∧ (x.record.selector = 1 ∨ (s.axis n).seq.refHanded = false →
                ∃ legs, (t.axis n).seq.executing = some
                    { x with
                      startTime := s.timeBase, legs := legs, corrections := 0
                      work := .search ⟨d, .search, 0, false⟩ }
                  ∧ ((t.axis n).seq.state = .pausing ∧ legs = 0 ∨ (t.axis n).seq.state = .seeking ∧ legs = 1)
                  ∧ ((s.axis n).drive.needsPause d = false → (t.axis n).seq.state = .seeking)
                  ∧ ((s.axis n).drive.needsPause d = true → (s.axis n).drive.pause ≠ 0 →
                      (t.axis n).seq.state = .pausing))
            ∧ (x.record.selector = 0 → (s.axis n).seq.refHanded = true →
                ∃ legs, (t.axis n).seq.executing = some
                    { x with
                      startTime := s.timeBase, legs := legs, corrections := 0
                      work := .search ⟨d, .backOff, 0, false⟩ }
                  ∧ ((t.axis n).seq.state = .pausing ∧ legs = 0 ∨ (t.axis n).seq.state = .seeking ∧ legs = 1)
                  ∧ ((s.axis n).drive.needsPause d.opposite = false → (t.axis n).seq.state = .seeking)
                  ∧ ((s.axis n).drive.needsPause d.opposite = true → (s.axis n).drive.pause ≠ 0 →
                      (t.axis n).seq.state = .pausing)))

/-- The work of a closure: an equal re-read makes the outcome write due, with its words in transfer order; a completed write
ends the work, with the page, the tag and the attention of the outcome; a re-read that differs tears the closure; a failure
moves the entry into the outcome latch; in each of the three the page takes the tag of the record (R39, R176). The end of an access that a reset has dropped frees the port alone (R25, R148). -/
def Obligations.ClosureWorkEnds : Prop :=
  (∀ (n : AxisId) (s : State) (a : Access), s.port.access = some a → a.dropped = true →
    (a.kind = .route n .closureReread → ∀ r, exec (.closureRereadEnd n r) s = .next { s with port.access := none })
    ∧ (a.kind = .route n .outcomeWrite → ∀ r, exec (.outcomeWriteEnd n r) s = .next { s with port.access := none }))
  ∧ ∀ (n : AxisId) (s : State) (a : Access) (e : ClosureEntry) (sec : Section),
    s.port.access = some a → a.dropped = false → (s.axis n).Shaped → s.sectionOf n = some sec →
    (s.axis n).seq.state = .idle ∨ (s.axis n).seq.state = .held →
    (a.kind = .route n .closureReread → (s.axis n).route.closure = some ⟨e, .reread⟩ →
        (∃ t, exec (.closureRereadEnd n (.data e.record)) s = .next t ∧ t.port.access = none
            ∧ (t.axis n).route.closure = some ⟨e, .write⟩
            ∧ (s.port.waiting.get n = none → t.port.waiting.get n = some
                ⟨.outcomeWrite, sec.slotAddr e.slot + 20,
                  [(4, e.finalPos), (8, e.elapsed), (0, e.legByte ++ e.outcome.code ++ e.record.stamp)]⟩))
        ∧ (∀ r, r ≠ e.record →
            ∃ t, exec (.closureRereadEnd n (.data r)) s = .next t ∧ t.port.access = none
              ∧ (t.axis n).route.closure = none
              ∧ (t.axis n).page.tornStamp = e.record.stamp ∧ (t.axis n).page.tornCode = e.outcome.code
              ∧ (t.axis n).page.tornSeen = true ∧ (t.axis n).page.due = true
              ∧ (t.axis n).page.lastTag = (if e.record.tagValid then e.record.tag else (s.axis n).page.lastTag)
              ∧ (t.axis n).seq.latch = none ∧ State.RestTakes n .tornSlot s t))
    ∧ (a.kind = .route n .outcomeWrite → (s.axis n).route.closure = some ⟨e, .write⟩ →
        ∃ t, exec (.outcomeWriteEnd n .acknowledged) s = .next t ∧ t.port.access = none
          ∧ (t.axis n).route.closure = none ∧ (t.axis n).page.due = true
          ∧ (t.axis n).page.lastTag = (if e.record.tagValid then e.record.tag else (s.axis n).page.lastTag)
          ∧ (e.outcome.success = false ∨ e.record.notifyClose = true →
              t.attn &&& axisAttnBit n = axisAttnBit n)
          ∧ (e.outcome.success = true → e.record.notifyClose = false → t.attn = s.attn))
    ∧ (∀ c, (c = .closureRereadEnd n .busError ∧ a.kind = .route n .closureReread
            ∧ (s.axis n).route.closure = some ⟨e, .reread⟩)
          ∨ (c = .outcomeWriteEnd n .busError ∧ a.kind = .route n .outcomeWrite
            ∧ (s.axis n).route.closure = some ⟨e, .write⟩) →
        ∃ t, exec c s = .next t ∧ t.port.access = none ∧ (t.axis n).route.closure = none
          ∧ (t.axis n).seq.latch = some e ∧ (t.axis n).page.tornStamp = e.record.stamp
          ∧ (t.axis n).page.tornCode = e.outcome.code ∧ (t.axis n).page.tornSeen = false
          ∧ (t.axis n).page.lastTag = (if e.record.tagValid then e.record.tag else (s.axis n).page.lastTag)
          ∧ (t.axis n).page.due = true ∧ t.latchMask &&& axisMask (fun m => m == n) ≠ 0
          ∧ State.RestTakes n .accessClose s t)

/-- The delivery of a latched outcome: an equal re-read makes the write due; a completed write, and a re-read that differs,
empty the latch, and the release completes with XSTOP_N high and ends REFUSED_STATE with it low; a failure keeps the latch and
ends the release REFUSED_ACCESS. A release that completes so hands the repeated ENCODER_LOST notice as any other (R110). The end
of an access that a reset has dropped frees the port alone (R25, R148). -/
def Obligations.DeliveryEnds : Prop :=
  (∀ (n : AxisId) (s : State) (a : Access), s.port.access = some a → a.dropped = true →
    (a.kind = .route n .deliveryReread → ∀ r, exec (.deliveryRereadEnd n r) s = .next { s with port.access := none })
    ∧ (a.kind = .route n .deliveryWrite → ∀ r, exec (.deliveryWriteEnd n r) s = .next { s with port.access := none }))
  ∧ ∀ (n : AxisId) (s : State) (a : Access) (e : ClosureEntry) (sec : Section),
    s.port.access = some a → a.dropped = false → (s.axis n).Shaped → s.sectionOf n = some sec →
    (s.axis n).seq.latch = some e →
    (a.kind = .route n .deliveryReread → (s.axis n).seq.delivery = some .reread →
        ∃ t, exec (.deliveryRereadEnd n (.data e.record)) s = .next t ∧ t.port.access = none
          ∧ (t.axis n).seq = { (s.axis n).seq with delivery := some .write }
          ∧ (s.port.waiting.get n = none → t.port.waiting.get n = some
              ⟨.deliveryWrite, sec.slotAddr e.slot + 20,
                [(4, e.finalPos), (8, e.elapsed), (0, e.legByte ++ e.outcome.code ++ e.record.stamp)]⟩))
    ∧ (∀ c, (∃ r, r ≠ e.record ∧ c = .deliveryRereadEnd n (.data r) ∧ a.kind = .route n .deliveryReread
            ∧ (s.axis n).seq.delivery = some .reread)
          ∨ (c = .deliveryWriteEnd n .acknowledged ∧ a.kind = .route n .deliveryWrite
            ∧ (s.axis n).seq.delivery = some .write) →
        ∃ t, exec c s = .next t ∧ t.port.access = none ∧ (t.axis n).seq.latch = none
          ∧ (t.axis n).seq.delivery = none ∧ (t.axis n).page.due = true ∧ t.cmd.pendingIndex = none
          ∧ t.attn &&& 0x10 = 0x10
          ∧ ((∀ r, c = .deliveryRereadEnd n (.data r) → (t.axis n).page.tornStamp = e.record.stamp
                ∧ (t.axis n).page.tornCode = e.outcome.code ∧ (t.axis n).page.tornSeen = true))
          ∧ (c = .deliveryWriteEnd n .acknowledged → (t.axis n).page.tornSeen = (s.axis n).page.tornSeen)
          ∧ (s.xstopHigh = false → (t.axis n).seq.state = .held ∧ t.cmd.result = .refusedState
              ∧ (t.axis n).seq.heldCause = (s.axis n).seq.heldCause ∧ (t.axis n).seq.later = (s.axis n).seq.later)
          ∧ (s.xstopHigh = true →
              (t.axis n).seq.state = .idle ∧ t.cmd.result = .done ∧ (t.axis n).seq.heldCause = none
                ∧ (t.axis n).seq.later = 0
                ∧ (t.axis n).seq.handed =
                    (if (s.axis n).pos.counting.isSome = true ∧ (s.axis n).pos.pairs.lost = true
                      then [⟨.encoderLost, .encoderLost⟩] else [])))
    ∧ (∀ c, (c = .deliveryRereadEnd n .busError ∧ a.kind = .route n .deliveryReread
            ∧ (s.axis n).seq.delivery = some .reread)
          ∨ (c = .deliveryWriteEnd n .busError ∧ a.kind = .route n .deliveryWrite
            ∧ (s.axis n).seq.delivery = some .write) →
        ∃ t, exec c s = .next t ∧ t.port.access = none ∧ State.JoinsLater n .accessClose s t
          ∧ (t.axis n).seq.latch = some e ∧ (t.axis n).seq.delivery = none
          ∧ t.cmd.result = .refusedAccess ∧ t.cmd.detail = 4 ∧ t.cmd.detailIndex = entryCode a.entry
          ∧ t.cmd.pendingIndex = none ∧ t.attn &&& 0x10 = 0x10)

/-- The end of a page write: a success clears the stale bit, a failure sets it with the axis ATTN bit and is taken as
ACCESS_STATUS; each ends the SNAPSHOT that the page answers. The end of a page write that a reset has dropped frees the port
alone (R148). -/
def Obligations.PageWriteEnds : Prop :=
  (∀ (n : AxisId) (s : State) (a : Access), s.port.access = some a → a.dropped = true → a.kind = .page n →
    ∀ r, exec (.pageWriteEnd r) s = .next { s with port.access := none })
  ∧ ∀ (n : AxisId) (s : State) (a : Access) (w : PageWriting),
    s.port.access = some a → a.kind = .page n → a.dropped = false → s.reporter.writing = some w → w.axis = n →
    (s.axis n).Shaped → (s.axis n).seq.state ≠ .dormant →
    (∃ t, exec (.pageWriteEnd .acknowledged) s = .next t ∧ t.port.access = none ∧ t.reporter.writing = none
        ∧ (t.axis n).page.stale = false
        ∧ (w.answersSnapshot = true → s.cmd.result = .pending → s.cmd.lastCode = 0x13 →
            s.cmd.pendingIndex = some n.toIndex →
              t.cmd.result = .done ∧ t.cmd.pendingIndex = none ∧ t.attn &&& 0x10 = 0x10)
        ∧ ((s.axis n).seq.state ≠ .pausing → w.answersSnapshot = false → t.cmd.result = s.cmd.result ∧ t.attn = s.attn))
    ∧ (∃ t, exec (.pageWriteEnd .busError) s = .next t ∧ t.port.access = none ∧ t.reporter.writing = none
        ∧ (t.axis n).page.stale = true ∧ t.attn &&& axisAttnBit n = axisAttnBit n
        ∧ State.CauseTaken n .accessStatus .accessFailed s t
        ∧ (w.answersSnapshot = true → s.cmd.result = .pending → s.cmd.lastCode = 0x13 →
            s.cmd.pendingIndex = some n.toIndex →
              t.cmd.result = .refusedAccess ∧ t.cmd.detail = 4 ∧ t.cmd.detailIndex = entryCode a.entry
                ∧ t.cmd.pendingIndex = none ∧ t.attn &&& 0x10 = 0x10))

/-! ### The end of a load -/

/-- A setup chunk: its data join the shadow and the next chunk is requested, and nothing else changes; a bus error, or after
chunk 15 the first of the checks of R160 to R166 that fails, ends the load FAILED_SETUP with its detail and index, and leaves
every block as it was but for the stop-line check of R78. The end of a chunk that a reset has dropped frees the port alone
(R148). -/
def Obligations.SetupChunksAndFailures : Prop :=
  (∀ ws : List Word,
    (∀ d i, validateShadow ws = some (d, i) ↔ FirstFailure (shadowChecks ws) (d, i))
      ∧ (validateShadow ws = none ↔ ∀ q ∈ shadowChecks ws, ¬ q.1))
  ∧ (∀ (s : State) (a : Access) (j : Nat), s.port.access = some a → a.dropped = true → a.kind = .chunk j →
      ∀ r, exec (.setupChunkEnd r) s = .next { s with port.access := none })
  ∧ ∀ (s : State) (a : Access) (j : Nat) (cs : List SetupChunk) (data : SetupChunk) (o : Origin),
    s.port.access = some a → a.kind = .chunk j → a.dropped = false → s.shadow = some cs →
    s.cmd.controller = .loading → s.cmd.origin = some o → (∀ n, (s.axis n).Shaped) →
    (∀ n, (s.axis n).seq.state = .dormant ∨ (s.axis n).seq.state = .idle ∨ (s.axis n).seq.state = .held) →
    (j < 15 → exec (.setupChunkEnd (.data data)) s = .next
      { s with
        shadow := some (cs ++ [data])
        port := { s.port with access := none, chunk := some (j + 1) } })
    ∧ (∀ answer d i, (answer = .busError ∧ d = .busError ∧ i = BitVec.ofNat 8 j)
          ∨ (answer = .data data ∧ 15 ≤ j ∧ FirstFailure (shadowChecks (shadowWords (cs ++ [data]))) (d, i)) →
        ∃ t, exec (.setupChunkEnd answer) s = .next t ∧ t.attn &&& 0x10 = 0x10
          ∧ t = { s with
              cmd := { s.cmd with
                controller := (match o with | .blank => .blank | .loaded => .loaded)
                origin := none, loadAddress := none, result := .failedSetup, detail := d.code, detailIndex := i
                pendingIndex := none }
              shadow := none, port.access := none, attn := t.attn, axes := t.axes }
          ∧ (s.xstopHigh = true → t.attn = s.attn ||| 0x10 ∧ t.axes = s.axes)
          ∧ (s.xstopHigh = false → ∀ n,
              ((s.axis n).seq.state = .dormant → t.axis n = s.axis n)
              ∧ ((s.axis n).seq.state = .idle → State.HeldBy n .lineStop t
                  ∧ (t.axis n).pos = { (s.axis n).pos with stallStart := none } ∧ (t.axis n).drive = (s.axis n).drive
                  ∧ (t.axis n).page = { (s.axis n).page with due := true }
                  ∧ (t.axis n).route =
                      { (s.axis n).route with
                        staging := [], target := none, dry := false, noticeLatch := false, patrolStart := none }
                  ∧ (t.axis n).seq =
                      { (s.axis n).seq with state := .held, heldCause := some .lineStop, executing := none })
              ∧ ((s.axis n).seq.state = .held → State.JoinsLater n .lineStop s t
                  ∧ t.axis n =
                      { s.axis n with seq.later := (s.axis n).seq.later ||| FaultKind.lineStop.bit })))

/-- The commit of a shadow that passes validation: every block takes the new setup (R26, R79, R123, R137, R139, R148, R168,
R183). That a commit drops assertion notices under way is log 23, and the REF level last handed of a disabled axis's sequencer,
inactive, is the model's choice (log 30). With XSTOP_N high every enabled axis is IDLE, and one whose encoder condition is LOST
has been handed a repeated ENCODER_LOST notice, which it takes once its first page has been composed (R110, log 9; O48); with XSTOP_N low every
enabled axis is HELD with LINE_STOP. -/
def Obligations.CommitTakesSetup : Prop :=
  ∀ (s : State) (a : Access) (j : Nat) (cs : List SetupChunk) (data : SetupChunk) (c : Setup),
    s.port.access = some a → a.kind = .chunk j → a.dropped = false → s.shadow = some cs → 15 ≤ j →
    validateShadow (shadowWords (cs ++ [data])) = none → c = parseSetup (shadowWords (cs ++ [data])) →
    ∃ t, exec (.setupChunkEnd (.data data)) s = .next t ∧ t.setup = some c ∧ t.attn &&& 0x10 = 0x10
      ∧ t.reporter.timerStart = (if c.report = 0 then none else some s.timeBase)
      ∧ t = { s with
          cmd := { s.cmd with
            controller := .loaded, origin := none, loadAddress := none, result := .done, detail := 0, detailIndex := 0
            pendingIndex := none }
          setup := t.setup, shadow := none, apertureOpen := t.apertureOpen, port.access := none, axes := t.axes
          reporter.timerStart := t.reporter.timerStart, attn := t.attn }
      ∧ (s.xstopHigh = true → t.attn = s.attn ||| 0x10)
      ∧ (∀ i, (c.apertures.get i).rights ≠ .none → t.apertureOpen.get i = (c.apertures.get i).openAtLoad)
      ∧ (∀ n, c.sections.get n = none →
          (t.axis n).route = RouteUnit.reset ∧ (t.axis n).seq = Sequencer.reset
            ∧ (t.axis n).pos.counting = none ∧ (t.axis n).pos.referenced = false ∧ (t.axis n).pos.raw = 0
            ∧ (t.axis n).pos.shift = 0 ∧ (t.axis n).pos.lossMark = false ∧ (t.axis n).pos.params = none
            ∧ (t.axis n).pos.span = none ∧ (t.axis n).pos.refLevel = (s.axis n).pos.refLevel
            ∧ (t.axis n).page = { PageUnit.reset with serial := (s.axis n).page.serial }
            ∧ (t.axis n).drive.mode = .none ∧ (t.axis n).drive.lastDir = (s.axis n).drive.lastDir
            ∧ ((s.axis n).drive.Sound → (t.axis n).drive.running = none ∧ (t.axis n).drive.rapid = false))
      ∧ (∀ n sec, c.sections.get n = some sec →
          (t.axis n).route = { RouteUnit.reset with expected := sec.s0 }
            ∧ (t.axis n).seq.executing = none ∧ (t.axis n).seq.latch = none ∧ (t.axis n).seq.later = 0
            ∧ (t.axis n).seq.stopNotices = 0 ∧ (t.axis n).seq.moveExpiry = none
            ∧ (t.axis n).seq.refHanded = (s.axis n).pos.refLevel ∧ (t.axis n).pos.refLevel = (s.axis n).pos.refLevel
            ∧ (t.axis n).pos.counting = some ⟨sec.edge, sec.kind⟩ ∧ (t.axis n).pos.shift = 0
            ∧ (t.axis n).pos.lastSpan = 0 ∧ (t.axis n).pos.lossMark = false ∧ (t.axis n).pos.span = none
            ∧ (t.axis n).pos.stallStart = none
            ∧ (t.axis n).pos.params = some ⟨sec.settle, sec.stall, sec.indexCheck, sec.indexSpan, sec.tolerance⟩
            ∧ (t.axis n).pos.pairs =
                (if (s.axis n).pos.counting.isSome = true then (s.axis n).pos.pairs else ⟨false, false, false⟩)
            ∧ ((s.axis n).pos.counting = some ⟨sec.edge, sec.kind⟩ ∧ (s.axis n).pos.lossMark = false →
                (t.axis n).pos.raw = (s.axis n).pos.raw ∧ (t.axis n).pos.referenced = (s.axis n).pos.referenced
                  ∧ (t.axis n).pos.lastChange = (s.axis n).pos.lastChange)
            ∧ ((s.axis n).pos.counting ≠ some ⟨sec.edge, sec.kind⟩ ∨ (s.axis n).pos.lossMark = true →
                (t.axis n).pos.raw = 0 ∧ (t.axis n).pos.referenced = false
                  ∧ (t.axis n).pos.lastChange = s.timeBase)
            ∧ (t.standsStill n = true ↔ sec.settle ≤ (s.timeBase - (t.axis n).pos.lastChange).toNat)
            ∧ (t.axis n).page = { PageUnit.reset with serial := (s.axis n).page.serial, due := true }
            ∧ (t.axis n).drive.mode = sec.output ∧ (t.axis n).drive.pause = sec.pause
            ∧ (t.axis n).drive.lastDir = (s.axis n).drive.lastDir ∧ (t.axis n).drive.lockout = (s.axis n).drive.lockout
            ∧ ((s.axis n).drive.Sound → (s.axis n).drive.running = none →
                (t.axis n).drive.running = none ∧ (t.axis n).drive.rapid = false)
            ∧ ((s.axis n).drive.mode = .steer → sec.output = .steer →
                (t.axis n).drive.runRev = (s.axis n).drive.runRev)
            ∧ ((s.axis n).drive.mode = .steer → sec.output = .split → (s.axis n).drive.runFwd = false →
                (t.axis n).drive.runRev = ((s.axis n).drive.dirHold && (s.axis n).drive.runRev)
                  ∧ ((t.axis n).drive.runRev = true → (t.axis n).drive.dirHold = true ∧ (t.axis n).drive.dirDrop = true))
            ∧ (∀ r0, t.standsStill n = true → (s.axis n).drive.restStart = some r0 →
                (t.axis n).drive.restStart = some r0
                  ∧ ((t.axis n).drive.revClear = true ↔ sec.pause ≤ (s.timeBase - r0).toNat))
            ∧ (t.standsStill n = true → (s.axis n).drive.restStart = none →
                (t.axis n).drive.restStart = some s.timeBase ∧ ((t.axis n).drive.revClear = true ↔ sec.pause = 0))
            ∧ (t.standsStill n = false →
                (t.axis n).drive.restStart = none ∧ (t.axis n).drive.revClear = (s.axis n).drive.revClear)
            ∧ (t.axis n).seq.handed = (if (t.axis n).pos.pairs.lost = true then [⟨.encoderLost, .encoderLost⟩] else [])
            ∧ (s.xstopHigh = true → (t.axis n).seq.state = .idle ∧ (t.axis n).seq.heldCause = none)
            ∧ (s.xstopHigh = false → State.HeldBy n .lineStop t))

/-! ### Events that find nothing -/

/-- A timer that does not run or has not run out, a notice, announcement or report that was not handed, an assertion notice in
BLANK or LOADING, an access end of another kind than the access in progress, an arbiter grant with the port busy or nothing
waiting, a level that is held already, a register write of fewer than four bytes or at the offset of no writable register, and
with RESET_N low every port write and every edge of XSTOP_N: the state is left as it is. The model's choice (log 2, 14, 23, 26). -/
def Obligations.NothingToTake : Prop :=
  (∀ (offset : BitVec 6) (lanes : BitVec 4) (value : Word) (s : State),
    lanes ≠ 0xF ∨ (offset ≠ 0x04 ∧ offset ≠ 0x08 ∧ offset ≠ 0x0C ∧ offset ≠ 0x10 ∧ offset ≠ 0x14) →
      exec (.registerWriteNoEffect offset lanes value) s = .next s)
  ∧ (∀ s : State, s.resetLow = true → (∀ c : Instr, c.isPortWrite = true → exec c s = .next s)
      ∧ exec .xstopAssertion s = .next s ∧ exec .xstopRelease s = .next s)
  ∧ ∀ (n : AxisId) (s : State),
    ((s.axis n).seq.stopNotices = 0 ∨ s.cmd.controller = .blank ∨ s.cmd.controller = .loading →
        exec (.assertionNotice n) s = .next s)
    ∧ ((s.axis n).pos.counting = none → ∀ edges, exec (.countChange n edges) s = .next s)
    ∧ ((s.axis n).pos.counting = none → exec (.indexPulse n) s = .next s)
    ∧ ((s.axis n).pos.counting = none → ∀ p, exec (.pairBroken n p) s = .next s ∧ exec (.pairIntact n p) s = .next s)
    ∧ (∀ p, (s.axis n).pos.pairs.get p = true → exec (.pairBroken n p) s = .next s)
    ∧ (∀ p, (s.axis n).pos.pairs.get p = false → exec (.pairIntact n p) s = .next s)
    ∧ (exec (.refLevelChange n (s.axis n).pos.refLevel) s = .next s)
    ∧ ((s.axis n).pos.standstill = true ∨ (s.axis n).pos.params = none
          ∨ (∃ p, (s.axis n).pos.params = some p ∧ (s.timeBase - (s.axis n).pos.lastChange).toNat < p.settle) →
        exec (.standstillReached n) s = .next s)
    ∧ ((s.axis n).pos.stallStart = none ∨ (s.axis n).pos.params = none ∨ (s.axis n).seq.state.driving = false
          ∨ (∃ p t0, (s.axis n).pos.params = some p ∧ (s.axis n).pos.stallStart = some t0
              ∧ (s.timeBase - t0).toNat < p.stall) →
        exec (.stallTimeExpiry n) s = .next s)
    ∧ ((s.axis n).seq.moveExpiry = none ∨ (s.axis n).seq.state.inMotion = false
          ∨ (∃ x t0, (s.axis n).seq.executing = some x ∧ (s.axis n).seq.moveExpiry = some t0
              ∧ (s.timeBase - x.startTime).toNat < (t0 - x.startTime).toNat) →
        exec (.moveTimeLimitExpiry n) s = .next s)
    ∧ ((s.axis n).seq.state ≠ .dwelling
          ∨ (∃ x t0, (s.axis n).seq.executing = some x ∧ x.work = .dwell t0
              ∧ (s.timeBase - x.startTime).toNat < (t0 - x.startTime).toNat) →
        exec (.dwellExpiry n) s = .next s)
    ∧ ((s.axis n).seq.state ≠ .awaiting →
        exec (.awaitDeadline n) s = .next s ∧ exec (.closureAnnouncement n) s = .next s)
    ∧ (∀ x w, (s.axis n).seq.executing = some x → x.work = .await w →
        (w.deadline = none
            ∨ (∃ t0, w.deadline = some t0 ∧ (s.timeBase - x.startTime).toNat < (t0 - x.startTime).toNat) →
          exec (.awaitDeadline n) s = .next s)
        ∧ (w.announced = [] → exec (.closureAnnouncement n) s = .next s))
    ∧ ((s.axis n).route.patrolStart = none ∨ s.setup = none
          ∨ (∃ c t0, s.setup = some c ∧ (s.axis n).route.patrolStart = some t0 ∧ (s.timeBase - t0).toNat < c.patrol) →
        exec (.patrolTimerExpiry n) s = .next s)
    ∧ (s.reporter.timerStart = none ∨ s.setup = none
          ∨ (∃ c t0, s.setup = some c ∧ s.reporter.timerStart = some t0 ∧ (s.timeBase - t0).toNat < c.report) →
        exec .reportTimerExpiry s = .next s)
    ∧ ((s.axis n).drive.revClear = true ∨ (s.axis n).drive.restStart = none
          ∨ (∃ t0, (s.axis n).drive.restStart = some t0 ∧ (s.timeBase - t0).toNat < (s.axis n).drive.pause) →
        exec (.pauseElapsed n) s = .next s)
    ∧ ((s.axis n).drive.dirSetup = false → exec (.directionSetupElapsed n) s = .next s)
    ∧ ((s.axis n).drive.dirHold = false → exec (.directionHoldElapsed n) s = .next s)
    ∧ (s.cmd.halt = none ∨ (∃ h, s.cmd.halt = some h ∧ h.reports.get n = []) →
        exec (.settledReport n) s = .next s)
    ∧ (s.xstopHigh = false → exec .xstopAssertion s = .next s)
    ∧ (s.xstopHigh = true → exec .xstopRelease s = .next s)
    ∧ (s.port.access = none → exec .transferTimeout s = .next s)
    ∧ ((∀ a, s.port.access = some a → ∀ m, a.kind ≠ .page m) → ∀ b, exec (.pageWriteEnd b) s = .next s)
    ∧ ((∀ a, s.port.access = some a → ∀ j, a.kind ≠ .chunk j) → ∀ b, exec (.setupChunkEnd b) s = .next s)
    ∧ ((∀ a, s.port.access = some a → a.kind ≠ .route n .fetch) → ∀ b, exec (.fetchEnd n b) s = .next s)
    ∧ ((∀ a, s.port.access = some a → a.kind ≠ .route n .verification) →
        ∀ b, exec (.verificationRereadEnd n b) s = .next s)
    ∧ ((∀ a, s.port.access = some a → a.kind ≠ .route n .closureReread) →
        ∀ b, exec (.closureRereadEnd n b) s = .next s)
    ∧ ((∀ a, s.port.access = some a → a.kind ≠ .route n .outcomeWrite) →
        ∀ b, exec (.outcomeWriteEnd n b) s = .next s)
    ∧ ((∀ a, s.port.access = some a → a.kind ≠ .route n .deliveryReread) →
        ∀ b, exec (.deliveryRereadEnd n b) s = .next s)
    ∧ ((∀ a, s.port.access = some a → a.kind ≠ .route n .deliveryWrite) →
        ∀ b, exec (.deliveryWriteEnd n b) s = .next s)
    ∧ (s.port.access.isSome = true
          ∨ (s.port.chunk = none ∧ (∀ m, s.port.waiting.get m = none)
              ∧ ((∀ m, (s.axis m).page.due = false) ∨ s.reporter.writing.isSome = true)) →
        exec .arbiterGrant s = .next s)

end
end

