-- ==== Sys2Proof/Laws/State.lean ====
section
/-! SUPPORT. The update lemmas of State: one for each field and each update, true by computation, so that no later proof
unfolds a record update. -/

namespace Sys2Proof

/-! ### Values per axis -/

@[simp] theorem PerAxis.get_set_same {α : Type} (v : PerAxis α) (n : AxisId) (x : α) : (v.set n x).get n = x := by
  cases n <;> rfl

theorem PerAxis.get_set_ne {α : Type} (v : PerAxis α) {n m : AxisId} (h : m ≠ n) (x : α) :
    (v.set n x).get m = v.get m := by
  cases n <;> cases m <;> first | rfl | exact absurd rfl h

@[simp] theorem PerAxis.get_all {α : Type} (x : α) (n : AxisId) : (PerAxis.all x).get n = x := by cases n <;> rfl

theorem PerAxis.ext_get {α : Type} {v w : PerAxis α} (h : ∀ n, v.get n = w.get n) : v = w := by
  cases v; cases w
  have h0 := h .a0; have h1 := h .a1; have h2 := h .a2; have h3 := h .a3
  simp only [PerAxis.get] at h0 h1 h2 h3
  subst h0 h1 h2 h3
  rfl

@[simp] theorem PerEntry.get_set_same {α : Type} (v : PerEntry α) (i : EntryId) (x : α) : (v.set i x).get i = x := by
  cases i <;> rfl

theorem PerEntry.get_set_ne {α : Type} (v : PerEntry α) {i j : EntryId} (h : j ≠ i) (x : α) :
    (v.set i x).get j = v.get j := by
  cases i <;> cases j <;> first | rfl | exact absurd rfl h

@[simp] theorem PerProfile.get_set_same {α : Type} (v : PerProfile α) (i : ProfileId) (x : α) :
    (v.set i x).get i = x := by
  cases i <;> rfl

theorem PerProfile.get_set_ne {α : Type} (v : PerProfile α) {i j : ProfileId} (h : j ≠ i) (x : α) :
    (v.set i x).get j = v.get j := by
  cases i <;> cases j <;> first | rfl | exact absurd rfl h

namespace Machine

/-! ### The blocks of an axis -/

@[simp] theorem State.axis_setAxis_same (s : State) (n : AxisId) (u : AxisUnit) : (s.setAxis n u).axis n = u :=
  PerAxis.get_set_same ..

theorem State.axis_setAxis_ne (s : State) {n m : AxisId} (h : m ≠ n) (u : AxisUnit) :
    (s.setAxis n u).axis m = s.axis m := PerAxis.get_set_ne _ h _

@[simp] theorem State.axis_modRoute_same (s : State) (n : AxisId) (f : RouteUnit → RouteUnit) :
    (s.modRoute n f).axis n = { s.axis n with route := f (s.axis n).route } := PerAxis.get_set_same ..

theorem State.axis_modRoute_ne (s : State) {n m : AxisId} (h : m ≠ n) (f : RouteUnit → RouteUnit) :
    (s.modRoute n f).axis m = s.axis m := PerAxis.get_set_ne _ h _

@[simp] theorem State.axis_modSeq_same (s : State) (n : AxisId) (f : Sequencer → Sequencer) :
    (s.modSeq n f).axis n = { s.axis n with seq := f (s.axis n).seq } := PerAxis.get_set_same ..

theorem State.axis_modSeq_ne (s : State) {n m : AxisId} (h : m ≠ n) (f : Sequencer → Sequencer) :
    (s.modSeq n f).axis m = s.axis m := PerAxis.get_set_ne _ h _

@[simp] theorem State.axis_modPos_same (s : State) (n : AxisId) (f : PositionUnit → PositionUnit) :
    (s.modPos n f).axis n = { s.axis n with pos := f (s.axis n).pos } := PerAxis.get_set_same ..

theorem State.axis_modPos_ne (s : State) {n m : AxisId} (h : m ≠ n) (f : PositionUnit → PositionUnit) :
    (s.modPos n f).axis m = s.axis m := PerAxis.get_set_ne _ h _

@[simp] theorem State.axis_modDrive_same (s : State) (n : AxisId) (f : DriveStage → DriveStage) :
    (s.modDrive n f).axis n = { s.axis n with drive := f (s.axis n).drive } := PerAxis.get_set_same ..

theorem State.axis_modDrive_ne (s : State) {n m : AxisId} (h : m ≠ n) (f : DriveStage → DriveStage) :
    (s.modDrive n f).axis m = s.axis m := PerAxis.get_set_ne _ h _

@[simp] theorem State.axis_modPage_same (s : State) (n : AxisId) (f : PageUnit → PageUnit) :
    (s.modPage n f).axis n = { s.axis n with page := f (s.axis n).page } := PerAxis.get_set_same ..

theorem State.axis_modPage_ne (s : State) {n m : AxisId} (h : m ≠ n) (f : PageUnit → PageUnit) :
    (s.modPage n f).axis m = s.axis m := PerAxis.get_set_ne _ h _

/-! ### The other fields -/

@[simp] theorem State.setAxis_timeBase (s : State) (n : AxisId) (u : AxisUnit) : (s.setAxis n u).timeBase = s.timeBase := rfl
@[simp] theorem State.setAxis_cmd (s : State) (n : AxisId) (u : AxisUnit) : (s.setAxis n u).cmd = s.cmd := rfl
@[simp] theorem State.setAxis_setup (s : State) (n : AxisId) (u : AxisUnit) : (s.setAxis n u).setup = s.setup := rfl
@[simp] theorem State.setAxis_shadow (s : State) (n : AxisId) (u : AxisUnit) : (s.setAxis n u).shadow = s.shadow := rfl
@[simp] theorem State.setAxis_apertureOpen (s : State) (n : AxisId) (u : AxisUnit) : (s.setAxis n u).apertureOpen = s.apertureOpen := rfl
@[simp] theorem State.setAxis_port (s : State) (n : AxisId) (u : AxisUnit) : (s.setAxis n u).port = s.port := rfl
@[simp] theorem State.setAxis_xstopHigh (s : State) (n : AxisId) (u : AxisUnit) : (s.setAxis n u).xstopHigh = s.xstopHigh := rfl
@[simp] theorem State.setAxis_reporter (s : State) (n : AxisId) (u : AxisUnit) : (s.setAxis n u).reporter = s.reporter := rfl
@[simp] theorem State.setAxis_attn (s : State) (n : AxisId) (u : AxisUnit) : (s.setAxis n u).attn = s.attn := rfl
@[simp] theorem State.setAxis_attnMask (s : State) (n : AxisId) (u : AxisUnit) : (s.setAxis n u).attnMask = s.attnMask := rfl
@[simp] theorem State.setAxis_resetLow (s : State) (n : AxisId) (u : AxisUnit) : (s.setAxis n u).resetLow = s.resetLow := rfl
@[simp] theorem State.setAxis_freeCount (s : State) (n : AxisId) (u : AxisUnit) : (s.setAxis n u).freeCount = s.freeCount := rfl
@[simp] theorem State.setAxis_pending (s : State) (n : AxisId) (u : AxisUnit) : (s.setAxis n u).pending = s.pending := rfl
@[simp] theorem State.setAxis_sectionOf (s : State) (n : AxisId) (u : AxisUnit) (m : AxisId) :
    (s.setAxis n u).sectionOf m = s.sectionOf m := rfl

@[simp] theorem State.modRoute_timeBase (s : State) (n : AxisId) (f : RouteUnit → RouteUnit) : (s.modRoute n f).timeBase = s.timeBase := rfl
@[simp] theorem State.modRoute_cmd (s : State) (n : AxisId) (f : RouteUnit → RouteUnit) : (s.modRoute n f).cmd = s.cmd := rfl
@[simp] theorem State.modRoute_setup (s : State) (n : AxisId) (f : RouteUnit → RouteUnit) : (s.modRoute n f).setup = s.setup := rfl
@[simp] theorem State.modRoute_shadow (s : State) (n : AxisId) (f : RouteUnit → RouteUnit) : (s.modRoute n f).shadow = s.shadow := rfl
@[simp] theorem State.modRoute_apertureOpen (s : State) (n : AxisId) (f : RouteUnit → RouteUnit) : (s.modRoute n f).apertureOpen = s.apertureOpen := rfl
@[simp] theorem State.modRoute_port (s : State) (n : AxisId) (f : RouteUnit → RouteUnit) : (s.modRoute n f).port = s.port := rfl
@[simp] theorem State.modRoute_xstopHigh (s : State) (n : AxisId) (f : RouteUnit → RouteUnit) : (s.modRoute n f).xstopHigh = s.xstopHigh := rfl
@[simp] theorem State.modRoute_reporter (s : State) (n : AxisId) (f : RouteUnit → RouteUnit) : (s.modRoute n f).reporter = s.reporter := rfl
@[simp] theorem State.modRoute_attn (s : State) (n : AxisId) (f : RouteUnit → RouteUnit) : (s.modRoute n f).attn = s.attn := rfl
@[simp] theorem State.modRoute_attnMask (s : State) (n : AxisId) (f : RouteUnit → RouteUnit) : (s.modRoute n f).attnMask = s.attnMask := rfl
@[simp] theorem State.modRoute_resetLow (s : State) (n : AxisId) (f : RouteUnit → RouteUnit) : (s.modRoute n f).resetLow = s.resetLow := rfl
@[simp] theorem State.modRoute_freeCount (s : State) (n : AxisId) (f : RouteUnit → RouteUnit) : (s.modRoute n f).freeCount = s.freeCount := rfl
@[simp] theorem State.modRoute_pending (s : State) (n : AxisId) (f : RouteUnit → RouteUnit) : (s.modRoute n f).pending = s.pending := rfl
@[simp] theorem State.modRoute_sectionOf (s : State) (n : AxisId) (f : RouteUnit → RouteUnit) (m : AxisId) :
    (s.modRoute n f).sectionOf m = s.sectionOf m := rfl

@[simp] theorem State.modSeq_timeBase (s : State) (n : AxisId) (f : Sequencer → Sequencer) : (s.modSeq n f).timeBase = s.timeBase := rfl
@[simp] theorem State.modSeq_cmd (s : State) (n : AxisId) (f : Sequencer → Sequencer) : (s.modSeq n f).cmd = s.cmd := rfl
@[simp] theorem State.modSeq_setup (s : State) (n : AxisId) (f : Sequencer → Sequencer) : (s.modSeq n f).setup = s.setup := rfl
@[simp] theorem State.modSeq_shadow (s : State) (n : AxisId) (f : Sequencer → Sequencer) : (s.modSeq n f).shadow = s.shadow := rfl
@[simp] theorem State.modSeq_apertureOpen (s : State) (n : AxisId) (f : Sequencer → Sequencer) : (s.modSeq n f).apertureOpen = s.apertureOpen := rfl
@[simp] theorem State.modSeq_port (s : State) (n : AxisId) (f : Sequencer → Sequencer) : (s.modSeq n f).port = s.port := rfl
@[simp] theorem State.modSeq_xstopHigh (s : State) (n : AxisId) (f : Sequencer → Sequencer) : (s.modSeq n f).xstopHigh = s.xstopHigh := rfl
@[simp] theorem State.modSeq_reporter (s : State) (n : AxisId) (f : Sequencer → Sequencer) : (s.modSeq n f).reporter = s.reporter := rfl
@[simp] theorem State.modSeq_attn (s : State) (n : AxisId) (f : Sequencer → Sequencer) : (s.modSeq n f).attn = s.attn := rfl
@[simp] theorem State.modSeq_attnMask (s : State) (n : AxisId) (f : Sequencer → Sequencer) : (s.modSeq n f).attnMask = s.attnMask := rfl
@[simp] theorem State.modSeq_resetLow (s : State) (n : AxisId) (f : Sequencer → Sequencer) : (s.modSeq n f).resetLow = s.resetLow := rfl
@[simp] theorem State.modSeq_freeCount (s : State) (n : AxisId) (f : Sequencer → Sequencer) : (s.modSeq n f).freeCount = s.freeCount := rfl
@[simp] theorem State.modSeq_pending (s : State) (n : AxisId) (f : Sequencer → Sequencer) : (s.modSeq n f).pending = s.pending := rfl
@[simp] theorem State.modSeq_sectionOf (s : State) (n : AxisId) (f : Sequencer → Sequencer) (m : AxisId) :
    (s.modSeq n f).sectionOf m = s.sectionOf m := rfl

@[simp] theorem State.modPos_timeBase (s : State) (n : AxisId) (f : PositionUnit → PositionUnit) : (s.modPos n f).timeBase = s.timeBase := rfl
@[simp] theorem State.modPos_cmd (s : State) (n : AxisId) (f : PositionUnit → PositionUnit) : (s.modPos n f).cmd = s.cmd := rfl
@[simp] theorem State.modPos_setup (s : State) (n : AxisId) (f : PositionUnit → PositionUnit) : (s.modPos n f).setup = s.setup := rfl
@[simp] theorem State.modPos_shadow (s : State) (n : AxisId) (f : PositionUnit → PositionUnit) : (s.modPos n f).shadow = s.shadow := rfl
@[simp] theorem State.modPos_apertureOpen (s : State) (n : AxisId) (f : PositionUnit → PositionUnit) : (s.modPos n f).apertureOpen = s.apertureOpen := rfl
@[simp] theorem State.modPos_port (s : State) (n : AxisId) (f : PositionUnit → PositionUnit) : (s.modPos n f).port = s.port := rfl
@[simp] theorem State.modPos_xstopHigh (s : State) (n : AxisId) (f : PositionUnit → PositionUnit) : (s.modPos n f).xstopHigh = s.xstopHigh := rfl
@[simp] theorem State.modPos_reporter (s : State) (n : AxisId) (f : PositionUnit → PositionUnit) : (s.modPos n f).reporter = s.reporter := rfl
@[simp] theorem State.modPos_attn (s : State) (n : AxisId) (f : PositionUnit → PositionUnit) : (s.modPos n f).attn = s.attn := rfl
@[simp] theorem State.modPos_attnMask (s : State) (n : AxisId) (f : PositionUnit → PositionUnit) : (s.modPos n f).attnMask = s.attnMask := rfl
@[simp] theorem State.modPos_resetLow (s : State) (n : AxisId) (f : PositionUnit → PositionUnit) : (s.modPos n f).resetLow = s.resetLow := rfl
@[simp] theorem State.modPos_freeCount (s : State) (n : AxisId) (f : PositionUnit → PositionUnit) : (s.modPos n f).freeCount = s.freeCount := rfl
@[simp] theorem State.modPos_pending (s : State) (n : AxisId) (f : PositionUnit → PositionUnit) : (s.modPos n f).pending = s.pending := rfl
@[simp] theorem State.modPos_sectionOf (s : State) (n : AxisId) (f : PositionUnit → PositionUnit) (m : AxisId) :
    (s.modPos n f).sectionOf m = s.sectionOf m := rfl

@[simp] theorem State.modDrive_timeBase (s : State) (n : AxisId) (f : DriveStage → DriveStage) : (s.modDrive n f).timeBase = s.timeBase := rfl
@[simp] theorem State.modDrive_cmd (s : State) (n : AxisId) (f : DriveStage → DriveStage) : (s.modDrive n f).cmd = s.cmd := rfl
@[simp] theorem State.modDrive_setup (s : State) (n : AxisId) (f : DriveStage → DriveStage) : (s.modDrive n f).setup = s.setup := rfl
@[simp] theorem State.modDrive_shadow (s : State) (n : AxisId) (f : DriveStage → DriveStage) : (s.modDrive n f).shadow = s.shadow := rfl
@[simp] theorem State.modDrive_apertureOpen (s : State) (n : AxisId) (f : DriveStage → DriveStage) : (s.modDrive n f).apertureOpen = s.apertureOpen := rfl
@[simp] theorem State.modDrive_port (s : State) (n : AxisId) (f : DriveStage → DriveStage) : (s.modDrive n f).port = s.port := rfl
@[simp] theorem State.modDrive_xstopHigh (s : State) (n : AxisId) (f : DriveStage → DriveStage) : (s.modDrive n f).xstopHigh = s.xstopHigh := rfl
@[simp] theorem State.modDrive_reporter (s : State) (n : AxisId) (f : DriveStage → DriveStage) : (s.modDrive n f).reporter = s.reporter := rfl
@[simp] theorem State.modDrive_attn (s : State) (n : AxisId) (f : DriveStage → DriveStage) : (s.modDrive n f).attn = s.attn := rfl
@[simp] theorem State.modDrive_attnMask (s : State) (n : AxisId) (f : DriveStage → DriveStage) : (s.modDrive n f).attnMask = s.attnMask := rfl
@[simp] theorem State.modDrive_resetLow (s : State) (n : AxisId) (f : DriveStage → DriveStage) : (s.modDrive n f).resetLow = s.resetLow := rfl
@[simp] theorem State.modDrive_freeCount (s : State) (n : AxisId) (f : DriveStage → DriveStage) : (s.modDrive n f).freeCount = s.freeCount := rfl
@[simp] theorem State.modDrive_pending (s : State) (n : AxisId) (f : DriveStage → DriveStage) : (s.modDrive n f).pending = s.pending := rfl
@[simp] theorem State.modDrive_sectionOf (s : State) (n : AxisId) (f : DriveStage → DriveStage) (m : AxisId) :
    (s.modDrive n f).sectionOf m = s.sectionOf m := rfl

@[simp] theorem State.modPage_timeBase (s : State) (n : AxisId) (f : PageUnit → PageUnit) : (s.modPage n f).timeBase = s.timeBase := rfl
@[simp] theorem State.modPage_cmd (s : State) (n : AxisId) (f : PageUnit → PageUnit) : (s.modPage n f).cmd = s.cmd := rfl
@[simp] theorem State.modPage_setup (s : State) (n : AxisId) (f : PageUnit → PageUnit) : (s.modPage n f).setup = s.setup := rfl
@[simp] theorem State.modPage_shadow (s : State) (n : AxisId) (f : PageUnit → PageUnit) : (s.modPage n f).shadow = s.shadow := rfl
@[simp] theorem State.modPage_apertureOpen (s : State) (n : AxisId) (f : PageUnit → PageUnit) : (s.modPage n f).apertureOpen = s.apertureOpen := rfl
@[simp] theorem State.modPage_port (s : State) (n : AxisId) (f : PageUnit → PageUnit) : (s.modPage n f).port = s.port := rfl
@[simp] theorem State.modPage_xstopHigh (s : State) (n : AxisId) (f : PageUnit → PageUnit) : (s.modPage n f).xstopHigh = s.xstopHigh := rfl
@[simp] theorem State.modPage_reporter (s : State) (n : AxisId) (f : PageUnit → PageUnit) : (s.modPage n f).reporter = s.reporter := rfl
@[simp] theorem State.modPage_attn (s : State) (n : AxisId) (f : PageUnit → PageUnit) : (s.modPage n f).attn = s.attn := rfl
@[simp] theorem State.modPage_attnMask (s : State) (n : AxisId) (f : PageUnit → PageUnit) : (s.modPage n f).attnMask = s.attnMask := rfl
@[simp] theorem State.modPage_resetLow (s : State) (n : AxisId) (f : PageUnit → PageUnit) : (s.modPage n f).resetLow = s.resetLow := rfl
@[simp] theorem State.modPage_freeCount (s : State) (n : AxisId) (f : PageUnit → PageUnit) : (s.modPage n f).freeCount = s.freeCount := rfl
@[simp] theorem State.modPage_pending (s : State) (n : AxisId) (f : PageUnit → PageUnit) : (s.modPage n f).pending = s.pending := rfl
@[simp] theorem State.modPage_sectionOf (s : State) (n : AxisId) (f : PageUnit → PageUnit) (m : AxisId) :
    (s.modPage n f).sectionOf m = s.sectionOf m := rfl

@[simp] theorem State.raise_timeBase (s : State) (b : BitVec 6) : (s.raise b).timeBase = s.timeBase := rfl
@[simp] theorem State.raise_cmd (s : State) (b : BitVec 6) : (s.raise b).cmd = s.cmd := rfl
@[simp] theorem State.raise_setup (s : State) (b : BitVec 6) : (s.raise b).setup = s.setup := rfl
@[simp] theorem State.raise_shadow (s : State) (b : BitVec 6) : (s.raise b).shadow = s.shadow := rfl
@[simp] theorem State.raise_apertureOpen (s : State) (b : BitVec 6) : (s.raise b).apertureOpen = s.apertureOpen := rfl
@[simp] theorem State.raise_port (s : State) (b : BitVec 6) : (s.raise b).port = s.port := rfl
@[simp] theorem State.raise_xstopHigh (s : State) (b : BitVec 6) : (s.raise b).xstopHigh = s.xstopHigh := rfl
@[simp] theorem State.raise_reporter (s : State) (b : BitVec 6) : (s.raise b).reporter = s.reporter := rfl
@[simp] theorem State.raise_attnMask (s : State) (b : BitVec 6) : (s.raise b).attnMask = s.attnMask := rfl
@[simp] theorem State.raise_resetLow (s : State) (b : BitVec 6) : (s.raise b).resetLow = s.resetLow := rfl
@[simp] theorem State.raise_freeCount (s : State) (b : BitVec 6) : (s.raise b).freeCount = s.freeCount := rfl
@[simp] theorem State.raise_pending (s : State) (b : BitVec 6) : (s.raise b).pending = s.pending := rfl
@[simp] theorem State.raise_attn (s : State) (b : BitVec 6) : (s.raise b).attn = s.attn ||| b := rfl
@[simp] theorem State.raise_axis (s : State) (b : BitVec 6) (n : AxisId) : (s.raise b).axis n = s.axis n := rfl
@[simp] theorem State.raise_sectionOf (s : State) (b : BitVec 6) (n : AxisId) : (s.raise b).sectionOf n = s.sectionOf n := rfl

@[simp] theorem State.finish_timeBase (s : State) (r : Result) (d i : Byte) : (s.finish r d i).timeBase = s.timeBase := rfl
@[simp] theorem State.finish_setup (s : State) (r : Result) (d i : Byte) : (s.finish r d i).setup = s.setup := rfl
@[simp] theorem State.finish_shadow (s : State) (r : Result) (d i : Byte) : (s.finish r d i).shadow = s.shadow := rfl
@[simp] theorem State.finish_apertureOpen (s : State) (r : Result) (d i : Byte) : (s.finish r d i).apertureOpen = s.apertureOpen := rfl
@[simp] theorem State.finish_port (s : State) (r : Result) (d i : Byte) : (s.finish r d i).port = s.port := rfl
@[simp] theorem State.finish_xstopHigh (s : State) (r : Result) (d i : Byte) : (s.finish r d i).xstopHigh = s.xstopHigh := rfl
@[simp] theorem State.finish_reporter (s : State) (r : Result) (d i : Byte) : (s.finish r d i).reporter = s.reporter := rfl
@[simp] theorem State.finish_attnMask (s : State) (r : Result) (d i : Byte) : (s.finish r d i).attnMask = s.attnMask := rfl
@[simp] theorem State.finish_resetLow (s : State) (r : Result) (d i : Byte) : (s.finish r d i).resetLow = s.resetLow := rfl
@[simp] theorem State.finish_freeCount (s : State) (r : Result) (d i : Byte) : (s.finish r d i).freeCount = s.freeCount := rfl
@[simp] theorem State.finish_pending (s : State) (r : Result) (d i : Byte) : (s.finish r d i).pending = s.pending := rfl
@[simp] theorem State.finish_attn (s : State) (r : Result) (d i : Byte) :
    (s.finish r d i).attn = s.attn ||| commandAttnBit := rfl
@[simp] theorem State.finish_cmd (s : State) (r : Result) (d i : Byte) :
    (s.finish r d i).cmd = { s.cmd with result := r, detail := d, detailIndex := i, pendingIndex := none } := rfl
@[simp] theorem State.finish_axis (s : State) (r : Result) (d i : Byte) (n : AxisId) : (s.finish r d i).axis n = s.axis n := rfl
@[simp] theorem State.finish_sectionOf (s : State) (r : Result) (d i : Byte) (n : AxisId) :
    (s.finish r d i).sectionOf n = s.sectionOf n := rfl

@[simp] theorem State.pend_timeBase (s : State) (i : Byte) : (s.pend i).timeBase = s.timeBase := rfl
@[simp] theorem State.pend_setup (s : State) (i : Byte) : (s.pend i).setup = s.setup := rfl
@[simp] theorem State.pend_shadow (s : State) (i : Byte) : (s.pend i).shadow = s.shadow := rfl
@[simp] theorem State.pend_apertureOpen (s : State) (i : Byte) : (s.pend i).apertureOpen = s.apertureOpen := rfl
@[simp] theorem State.pend_port (s : State) (i : Byte) : (s.pend i).port = s.port := rfl
@[simp] theorem State.pend_xstopHigh (s : State) (i : Byte) : (s.pend i).xstopHigh = s.xstopHigh := rfl
@[simp] theorem State.pend_reporter (s : State) (i : Byte) : (s.pend i).reporter = s.reporter := rfl
@[simp] theorem State.pend_attn (s : State) (i : Byte) : (s.pend i).attn = s.attn := rfl
@[simp] theorem State.pend_attnMask (s : State) (i : Byte) : (s.pend i).attnMask = s.attnMask := rfl
@[simp] theorem State.pend_resetLow (s : State) (i : Byte) : (s.pend i).resetLow = s.resetLow := rfl
@[simp] theorem State.pend_freeCount (s : State) (i : Byte) : (s.pend i).freeCount = s.freeCount := rfl
@[simp] theorem State.pend_pending (s : State) (i : Byte) : (s.pend i).pending = s.pending := rfl
@[simp] theorem State.pend_cmd (s : State) (i : Byte) :
    (s.pend i).cmd = { s.cmd with result := .pending, pendingIndex := some i } := rfl
@[simp] theorem State.pend_axis (s : State) (i : Byte) (n : AxisId) : (s.pend i).axis n = s.axis n := rfl
@[simp] theorem State.pend_sectionOf (s : State) (i : Byte) (n : AxisId) : (s.pend i).sectionOf n = s.sectionOf n := rfl

end Machine

end Sys2Proof
end

