-- ==== Sys2Proof/Laws/Frame.lean ====
section
/-! SUPPORT. The frame of every operation on one axis: `State.Frame` says once what such an operation leaves alone. -/

namespace Sys2Proof.Machine

theorem AxisUnit.Untouched.refl (u : AxisUnit) : AxisUnit.Untouched u u :=
  ⟨rfl, rfl, rfl, rfl, rfl, .inl rfl⟩

theorem AxisUnit.Untouched.trans {u v w : AxisUnit} (h : Untouched u v) (k : Untouched v w) : Untouched u w := by
  refine ⟨k.route.trans h.route, k.pos.trans h.pos, k.drive.trans h.drive, k.page.trans h.page, ?_, ?_⟩
  · rw [k.seq, h.seq]
  · rcases h.heard with h1 | ⟨x, a, es, h1, h2, h3⟩
    · rw [← h1]; exact k.heard
    · rcases k.heard with k1 | ⟨y, b, fs, k1, k2, k3⟩
      · exact .inr ⟨x, a, es, h1, h2, k1.trans h3⟩
      · rw [h3] at k1
        cases k1
        cases k2
        exact .inr ⟨x, a, es ++ fs, h1, h2, by rw [k3]; simp⟩

theorem State.Frame.refl (n : AxisId) (s : State) : State.Frame n s s where
  others _ _ := .refl _
  timeBase := rfl
  controller := rfl
  origin := rfl
  loadAddress := rfl
  setupAddr := rfl
  lastCode := rfl
  overrun := rfl
  record := .inl ⟨rfl, rfl, rfl, rfl⟩
  halt := .inl rfl
  setup := rfl
  shadow := rfl
  apertureOpen := rfl
  access := rfl
  pointer := rfl
  chunk := rfl
  waiting _ _ := rfl
  xstopHigh := rfl
  reporter := rfl
  attn := ⟨0, by simp, by simp⟩
  attnMask := rfl
  resetLow := rfl
  freeCount := rfl
  pending := rfl

/-- Bits that are set stay set where more are set. -/
theorem and_or_kept {w : Nat} {a m : BitVec w} (h : a &&& m = m) (b : BitVec w) : (a ||| b) &&& m = m := by
  ext i hi
  have e := congrArg (fun v : BitVec w => v[i]) h
  simp only [BitVec.getElem_and, BitVec.getElem_or] at e ⊢
  rw [Bool.and_or_distrib_right, e]
  cases m[i] <;> simp

theorem State.Frame.trans {n : AxisId} {s t r : State} (h : Frame n s t) (k : Frame n t r) : Frame n s r where
  others m hm := (h.others m hm).trans (k.others m hm)
  timeBase := k.timeBase.trans h.timeBase
  controller := k.controller.trans h.controller
  origin := k.origin.trans h.origin
  loadAddress := k.loadAddress.trans h.loadAddress
  setupAddr := k.setupAddr.trans h.setupAddr
  lastCode := k.lastCode.trans h.lastCode
  overrun := k.overrun.trans h.overrun
  record := by
    rcases h.record with ⟨h1, h2, h3, h4⟩ | ⟨h0, h1, h2, h3, h4, h5⟩
    · rcases k.record with ⟨k1, k2, k3, k4⟩ | ⟨⟨k1, k2, k3⟩, k4⟩
      · exact .inl ⟨k1.trans h1, k2.trans h2, k3.trans h3, k4.trans h4⟩
      · exact .inr ⟨⟨h1 ▸ k1, h.lastCode ▸ k2, h4 ▸ k3⟩, k4⟩
    · rcases k.record with ⟨k1, k2, k3, k4⟩ | ⟨⟨k1, _⟩, _⟩
      · obtain ⟨b, hb, _⟩ := k.attn
        exact .inr ⟨h0, k1.trans h1, k2.trans h2, k3.trans h3, k4.trans h4, by rw [hb]; exact and_or_kept h5 b⟩
      · rw [h1] at k1; cases k1
  halt := by
    rcases h.halt with h1 | ⟨a, b, h1, h2, h3, h4⟩
    · rw [← h1]; exact k.halt
    · rcases k.halt with k1 | ⟨c, d, k1, k2, k3, k4⟩
      · exact .inr ⟨a, b, h1, k1.trans h2, h3, h4⟩
      · rw [h2] at k1; cases k1
        exact .inr ⟨a, d, h1, k2, k3.trans h3,
          fun m hm => ⟨(k4 m hm).1.trans (h4 m hm).1, (k4 m hm).2.trans (h4 m hm).2⟩⟩
  setup := k.setup.trans h.setup
  shadow := k.shadow.trans h.shadow
  apertureOpen := k.apertureOpen.trans h.apertureOpen
  access := k.access.trans h.access
  pointer := k.pointer.trans h.pointer
  chunk := k.chunk.trans h.chunk
  waiting m hm := (k.waiting m hm).trans (h.waiting m hm)
  xstopHigh := k.xstopHigh.trans h.xstopHigh
  reporter := k.reporter.trans h.reporter
  attn := by
    obtain ⟨b, hb, hb'⟩ := h.attn
    obtain ⟨c, hc, hc'⟩ := k.attn
    refine ⟨b ||| c, by rw [hc, hb, BitVec.or_assoc], ?_⟩
    ext i hi
    have e1 := congrArg (fun v : BitVec 6 => v[i]) hb'
    have e2 := congrArg (fun v : BitVec 6 => v[i]) hc'
    simp only [BitVec.getElem_and, BitVec.getElem_or] at e1 e2 ⊢
    rw [Bool.and_or_distrib_right, e1, e2]; simp
  attnMask := k.attnMask.trans h.attnMask
  resetLow := k.resetLow.trans h.resetLow
  freeCount := k.freeCount.trans h.freeCount
  pending := k.pending.trans h.pending

/-- A change of the blocks of axis n alone. -/
theorem State.frame_setAxis (s : State) (n : AxisId) (u : AxisUnit) : Frame n s (s.setAxis n u) where
  others m hm := by rw [State.axis_setAxis_ne s hm]; exact .refl _
  timeBase := rfl
  controller := rfl
  origin := rfl
  loadAddress := rfl
  setupAddr := rfl
  lastCode := rfl
  overrun := rfl
  record := .inl ⟨rfl, rfl, rfl, rfl⟩
  halt := .inl rfl
  setup := rfl
  shadow := rfl
  apertureOpen := rfl
  access := rfl
  pointer := rfl
  chunk := rfl
  waiting _ _ := rfl
  xstopHigh := rfl
  reporter := rfl
  attn := ⟨0, by simp, by simp⟩
  attnMask := rfl
  resetLow := rfl
  freeCount := rfl
  pending := rfl

theorem State.frame_modRoute (s : State) (n : AxisId) (f) : Frame n s (s.modRoute n f) := s.frame_setAxis n _
theorem State.frame_modSeq (s : State) (n : AxisId) (f) : Frame n s (s.modSeq n f) := s.frame_setAxis n _
theorem State.frame_modPos (s : State) (n : AxisId) (f) : Frame n s (s.modPos n f) := s.frame_setAxis n _
theorem State.frame_modDrive (s : State) (n : AxisId) (f) : Frame n s (s.modDrive n f) := s.frame_setAxis n _
theorem State.frame_modPage (s : State) (n : AxisId) (f) : Frame n s (s.modPage n f) := s.frame_setAxis n _

theorem State.Calm.refl (n : AxisId) (s : State) : Calm n s s :=
  { State.Frame.refl n s with
    drive := ⟨_, rfl⟩, stopNotices := rfl, refHanded := rfl, pos := ⟨_, _, _, _, _, rfl⟩ }

theorem State.Calm.trans {n : AxisId} {s t r : State} (h : Calm n s t) (k : Calm n t r) : Calm n s r :=
  { h.toFrame.trans k.toFrame with
    drive := by
      obtain ⟨b, hb⟩ := h.drive
      obtain ⟨c, hc⟩ := k.drive
      exact ⟨c, by rw [hc, hb]⟩
    stopNotices := k.stopNotices.trans h.stopNotices
    refHanded := k.refHanded.trans h.refHanded
    pos := by
      obtain ⟨_, _, _, _, _, hb⟩ := h.pos
      obtain ⟨a1, a2, a3, a4, a5, hc⟩ := k.pos
      exact ⟨a1, a2, a3, a4, a5, by rw [hc, hb]⟩ }

/-- A change of the blocks of axis n that leaves what `Calm` names. -/
theorem State.calm_setAxis (s : State) (n : AxisId) (u : AxisUnit)
    (hd : ∃ b, u.drive = { (s.axis n).drive with lockout := b })
    (hs : u.seq.stopNotices = (s.axis n).seq.stopNotices) (hr : u.seq.refHanded = (s.axis n).seq.refHanded)
    (hp : ∃ raw shift stall span ref, u.pos =
      { (s.axis n).pos with raw := raw, shift := shift, stallStart := stall, span := span, referenced := ref }) :
    Calm n s (s.setAxis n u) :=
  { s.frame_setAxis n u with
    drive := by rw [State.axis_setAxis_same]; exact hd
    stopNotices := by rw [State.axis_setAxis_same]; exact hs
    refHanded := by rw [State.axis_setAxis_same]; exact hr
    pos := by rw [State.axis_setAxis_same]; exact hp }

theorem State.calm_modRoute (s : State) (n : AxisId) (f) : Calm n s (s.modRoute n f) :=
  s.calm_setAxis n _ ⟨_, rfl⟩ rfl rfl ⟨_, _, _, _, _, rfl⟩
theorem State.calm_modPage (s : State) (n : AxisId) (f) : Calm n s (s.modPage n f) :=
  s.calm_setAxis n _ ⟨_, rfl⟩ rfl rfl ⟨_, _, _, _, _, rfl⟩
theorem State.calm_modSeq (s : State) (n : AxisId) (f)
    (hs : (f (s.axis n).seq).stopNotices = (s.axis n).seq.stopNotices := by rfl)
    (hr : (f (s.axis n).seq).refHanded = (s.axis n).seq.refHanded := by rfl) : Calm n s (s.modSeq n f) :=
  s.calm_setAxis n _ ⟨_, rfl⟩ hs hr ⟨_, _, _, _, _, rfl⟩
theorem State.calm_modPos (s : State) (n : AxisId) (f)
    (hp : ∃ raw shift stall span ref, f (s.axis n).pos =
      { (s.axis n).pos with raw := raw, shift := shift, stallStart := stall, span := span, referenced := ref }) :
    Calm n s (s.modPos n f) :=
  s.calm_setAxis n _ ⟨_, rfl⟩ rfl rfl hp

/-- The same state but for ATTN bits of the axis or of the command, and the result of an ABORT_AXIS. -/
theorem State.frame_cmd (n : AxisId) (s : State) (r : Result) (d i : Byte) (p : Option Byte) (b : BitVec 6)
    (hb : b &&& ~~~(axisAttnBit n ||| commandAttnBit) = 0)
    (hr : let t : State := { s with
            cmd.result := r, cmd.detail := d, cmd.detailIndex := i, cmd.pendingIndex := p, attn := s.attn ||| b }
      State.KeepsRecord s t ∨ State.CompletesAbort n s t) :
    Frame n s
      { s with
        cmd.result := r, cmd.detail := d, cmd.detailIndex := i, cmd.pendingIndex := p, attn := s.attn ||| b } where
  others _ _ := .refl _
  timeBase := rfl
  controller := rfl
  origin := rfl
  loadAddress := rfl
  setupAddr := rfl
  lastCode := rfl
  overrun := rfl
  record := hr
  halt := .inl rfl
  setup := rfl
  shadow := rfl
  apertureOpen := rfl
  access := rfl
  pointer := rfl
  chunk := rfl
  waiting _ _ := rfl
  xstopHigh := rfl
  reporter := rfl
  attn := ⟨b, rfl, hb⟩
  attnMask := rfl
  resetLow := rfl
  freeCount := rfl
  pending := rfl

theorem State.calm_cmd (n : AxisId) (s : State) (r : Result) (d i : Byte) (p : Option Byte) (b : BitVec 6)
    (hb : b &&& ~~~(axisAttnBit n ||| commandAttnBit) = 0)
    (hr : let t : State := { s with
            cmd.result := r, cmd.detail := d, cmd.detailIndex := i, cmd.pendingIndex := p, attn := s.attn ||| b }
      State.KeepsRecord s t ∨ State.CompletesAbort n s t) :
    Calm n s
      { s with
        cmd.result := r, cmd.detail := d, cmd.detailIndex := i, cmd.pendingIndex := p, attn := s.attn ||| b } :=
  { s.frame_cmd n r d i p b hb hr with
    drive := ⟨_, rfl⟩, stopNotices := rfl, refHanded := rfl, pos := ⟨_, _, _, _, _, rfl⟩ }

theorem State.pendingFor_iff (s : State) (code : Byte) (n : AxisId) : s.pendingFor code n = true ↔
    s.cmd.result = .pending ∧ s.cmd.lastCode = code ∧ s.cmd.pendingIndex = some n.toIndex := by
  simp [State.pendingFor, and_assoc]

theorem State.calm_raise (s : State) (n : AxisId) : Calm n s (s.raise (axisAttnBit n)) :=
  s.calm_cmd n s.cmd.result s.cmd.detail s.cmd.detailIndex s.cmd.pendingIndex (axisAttnBit n)
    (by cases n <;> decide) (.inl ⟨rfl, rfl, rfl, rfl⟩)

/-! ### The shared operations -/

theorem State.calm_pageDue (s : State) (n : AxisId) : Calm n s (s.pageDue n) := by
  unfold State.pageDue; split
  · exact .refl ..
  · exact s.calm_modPage n _

theorem State.calm_setReferenced (s : State) (n : AxisId) (b : Bool) : Calm n s (s.setReferenced n b) := by
  unfold State.setReferenced; split
  · exact .refl ..
  · exact (s.calm_modPos n _ ⟨_, _, _, _, _, rfl⟩).trans (State.calm_pageDue _ n)

theorem State.calm_setAxisState (s : State) (n : AxisId) (st : AxisState) : Calm n s (s.setAxisState n st) := by
  unfold State.setAxisState; dsimp only; split
  · exact .refl ..
  · refine .trans (s.calm_setAxis n _ ?_ ?_ ?_ ?_) (State.calm_pageDue _ n)
    · exact ⟨_, rfl⟩
    · rfl
    · rfl
    · exact ⟨_, _, _, _, _, rfl⟩

theorem State.calm_discardStaging (s : State) (n : AxisId) : Calm n s (s.discardStaging n) := by
  unfold State.discardStaging; dsimp only; split
  · exact (s.calm_modRoute n _).trans (State.calm_modSeq _ n _)
  · exact s.calm_modRoute n _

theorem State.calm_completeAbort (s : State) (n : AxisId) : Calm n s (s.completeAbort n) := by
  unfold State.completeAbort; split
  · rename_i h
    exact s.calm_cmd n .done 0 0 none commandAttnBit (by cases n <;> decide)
      (.inr ⟨(s.pendingFor_iff _ n).mp h, rfl, rfl, rfl, rfl, by
        rw [BitVec.or_comm]; exact and_or_kept (BitVec.and_self ..) _⟩)
  · exact .refl ..

theorem State.calm_enterHeld (s : State) (n : AxisId) (k : FaultKind) : Calm n s (s.enterHeld n k) :=
  ((((s.calm_discardStaging n).trans (State.calm_setAxisState _ n _)).trans (State.calm_modSeq _ n _)).trans
    (State.calm_raise _ n)).trans (State.calm_completeAbort _ n)

theorem State.calm_joinLater (s : State) (n : AxisId) (k : FaultKind) : Calm n s (s.joinLater n k) :=
  (s.calm_modSeq n _).trans (State.calm_raise _ n)

theorem Sequencer.hear_same (q : Sequencer) (n : AxisId) (e : Stamp) :
    q.hear n e = { q with executing := (q.hear n e).executing } := by
  unfold Sequencer.hear; split <;> try rfl
  split <;> try rfl
  split <;> rfl

theorem Sequencer.hear_executing (q : Sequencer) (n : AxisId) (e : Stamp) :
    (q.hear n e).executing = q.executing ∨
      ∃ x a es, q.executing = some x ∧ x.work = .await a
        ∧ (q.hear n e).executing = some { x with work := .await { a with announced := a.announced ++ es } } := by
  unfold Sequencer.hear; split <;> try exact .inl rfl
  rename_i x hx
  split <;> try exact .inl rfl
  rename_i a ha
  split
  · exact .inr ⟨x, a, [e], hx, ha, rfl⟩
  · exact .inl rfl

theorem AxisUnit.untouched_hear (u : AxisUnit) (n : AxisId) (e : Stamp) :
    AxisUnit.Untouched u { u with seq := u.seq.hear n e } :=
  ⟨rfl, rfl, rfl, rfl, u.seq.hear_same n e, u.seq.hear_executing n e⟩

/-- What hearing an announcement leaves: every axis untouched, nothing else changed. -/
theorem State.frame_hear (s : State) (n m : AxisId) (k : AxisId) (e : Stamp) :
    Frame n s (s.modSeq m fun q => q.hear k e) where
  others j hj := by
    by_cases h : j = m
    · subst h; rw [State.axis_modSeq_same]; exact AxisUnit.untouched_hear _ k e
    · rw [State.axis_modSeq_ne s h]; exact .refl _
  timeBase := rfl
  controller := rfl
  origin := rfl
  loadAddress := rfl
  setupAddr := rfl
  lastCode := rfl
  overrun := rfl
  record := .inl ⟨rfl, rfl, rfl, rfl⟩
  halt := .inl rfl
  setup := rfl
  shadow := rfl
  apertureOpen := rfl
  access := rfl
  pointer := rfl
  chunk := rfl
  waiting _ _ := rfl
  xstopHigh := rfl
  reporter := rfl
  attn := ⟨0, by simp, by simp⟩
  attnMask := rfl
  resetLow := rfl
  freeCount := rfl
  pending := rfl

theorem State.calm_hear (s : State) (n m : AxisId) (k : AxisId) (e : Stamp) :
    Calm n s (s.modSeq m fun q => q.hear k e) := by
  have h := s.frame_hear n m k e
  by_cases hm : n = m
  · subst hm
    have e1 : ((s.axis n).seq.hear k e).stopNotices = (s.axis n).seq.stopNotices := by rw [Sequencer.hear_same]
    have e2 : ((s.axis n).seq.hear k e).refHanded = (s.axis n).seq.refHanded := by rw [Sequencer.hear_same]
    exact { h with
      drive := ⟨_, by rw [State.axis_modSeq_same]⟩
      stopNotices := by rw [State.axis_modSeq_same]; exact e1
      refHanded := by rw [State.axis_modSeq_same]; exact e2
      pos := ⟨_, _, _, _, _, by rw [State.axis_modSeq_same]⟩ }
  · have e0 := State.axis_modSeq_ne s hm fun q => q.hear k e
    exact { h with
      drive := ⟨_, by rw [e0]⟩, stopNotices := by rw [e0], refHanded := by rw [e0]
      pos := ⟨_, _, _, _, _, by rw [e0]⟩ }

theorem State.calm_advanceStamp (s : State) (n : AxisId) : Calm n s (s.advanceStamp n) :=
  ((((s.calm_modRoute n _).trans (State.calm_hear _ n .a0 n _)).trans (State.calm_hear _ n .a1 n _)).trans
    (State.calm_hear _ n .a2 n _)).trans (State.calm_hear _ n .a3 n _)

theorem State.calm_closeRecordAt (s : State) (n : AxisId) (o : Outcome) (at' : Word) :
    Calm n s (s.closeRecordAt n o at') := by
  unfold State.closeRecordAt; split
  · exact .refl ..
  · exact ((s.calm_modSeq n _).trans (State.calm_modRoute _ n _)).trans (State.calm_advanceStamp _ n)

theorem State.calm_closeRecord (s : State) (n : AxisId) (o : Outcome) : Calm n s (s.closeRecord n o) :=
  s.calm_closeRecordAt n o _

theorem State.calm_hand (s : State) (n : AxisId) (k : FaultKind) (o : Outcome) : Calm n s (s.hand n k o) :=
  s.calm_modSeq n _

theorem State.calm_repeatLoss (s : State) (n : AxisId) : Calm n s (s.repeatLoss n) := by
  unfold State.repeatLoss; split
  · exact s.calm_hand n _ _
  · exact .refl ..

theorem State.calm_enterIdle (s : State) (n : AxisId) : Calm n s (s.enterIdle n) := by
  unfold State.enterIdle; split
  · exact .refl ..
  · exact (s.calm_setAxisState n _).trans (State.calm_repeatLoss _ n)

theorem State.calm_finishStopping (s : State) (n : AxisId) : Calm n s (s.finishStopping n) := by
  unfold State.finishStopping; dsimp only; split
  · exact (s.calm_closeRecord n _).trans (State.calm_enterHeld _ n _)
  · exact (s.calm_closeRecord n _).trans (State.calm_enterIdle _ n)

theorem State.calm_enterStopping (s : State) (n : AxisId) (o : Outcome) (k : Option FaultKind) :
    Calm n s (s.enterStopping n o k) := by
  unfold State.enterStopping; dsimp only; split
  · exact (((s.calm_discardStaging n).trans (State.calm_setAxisState _ n _)).trans (State.calm_modSeq _ n _)).trans
      (State.calm_finishStopping _ n)
  · exact ((s.calm_discardStaging n).trans (State.calm_setAxisState _ n _)).trans (State.calm_modSeq _ n _)

theorem State.calm_takeCause (s : State) (n : AxisId) (k : FaultKind) (o : Outcome) : Calm n s (s.takeCause n k o) := by
  unfold State.takeCause; split <;>
    first
    | exact .refl ..
    | exact s.calm_enterHeld n _
    | exact s.calm_enterStopping n _ _
    | exact (s.calm_closeRecord n _).trans (State.calm_enterHeld _ n _)
    | exact s.calm_joinLater n _
    | skip
  split
  · exact s.calm_modSeq n _
  · exact s.calm_joinLater n _

theorem State.calm_takeNotice (s : State) (n : AxisId) (k : FaultKind) (o : Outcome) :
    Calm n s (s.takeNotice n k o) := by
  unfold State.takeNotice; split
  · exact s.calm_takeCause n _ _
  · exact s.calm_hand n _ _

theorem State.calm_takeHanded (s : State) (n : AxisId) : Calm n s (s.takeHanded n) := by
  have go : ∀ (l : List UnitNotice) (t : State), Calm n t (l.foldl (fun s h => s.takeCause n h.kind h.outcome) t) := by
    intro l
    induction l with
    | nil => exact fun t => .refl ..
    | cons h l ih => exact fun t => (t.calm_takeCause n _ _).trans (ih _)
  exact (s.calm_modSeq n _).trans (go _ _)

theorem State.calm_loseReference (s : State) (n : AxisId) (k : FaultKind) (o : Outcome) :
    Calm n s (s.loseReference n k o) := (s.calm_setReferenced n _).trans (State.calm_takeNotice _ n _ _)

theorem State.frame_evalDrive (s : State) (n : AxisId) : Frame n s (s.evalDrive n) := s.frame_modDrive n _

theorem PositionUnit.setPosition_kept (p : PositionUnit) (a : Int) : ∃ raw shift stall span ref, p.setPosition a =
    { p with raw := raw, shift := shift, stallStart := stall, span := span, referenced := ref } := by
  unfold PositionUnit.setPosition; split <;> exact ⟨_, _, _, _, _, rfl⟩

theorem PositionUnit.setPosition_span_kept (p : PositionUnit) (a : Int) : ∃ raw shift stall span ref,
    ({ p.setPosition a with span := p.span } : PositionUnit) =
      { p with raw := raw, shift := shift, stallStart := stall, span := span, referenced := ref } := by
  unfold PositionUnit.setPosition; split <;> exact ⟨_, _, _, _, _, rfl⟩

/-! ### Legs and searches -/

theorem State.calm_setWork (s : State) (n : AxisId) (w : KindState) : Calm n s (s.setWork n w) := s.calm_modSeq n _
theorem State.calm_countLeg (s : State) (n : AxisId) : Calm n s (s.countLeg n) := s.calm_modSeq n _
theorem State.calm_countCorrection (s : State) (n : AxisId) : Calm n s (s.countCorrection n) := s.calm_modSeq n _

theorem State.calm_driveZone (s : State) (n : AxisId) (m : MoveState) (l : Leg) : Calm n s (s.driveZone n m l) :=
  ((s.calm_setWork n _).trans (State.calm_countLeg _ n)).trans (State.calm_setAxisState _ n _)

theorem State.calm_startMoving (s : State) (n : AxisId) (m : MoveState) (l : Leg) : Calm n s (s.startMoving n m l) := by
  unfold State.startMoving; split
  · exact (s.calm_setWork n _).trans (State.calm_setAxisState _ n _)
  · exact s.calm_driveZone n m l

theorem State.calm_cutAtOnce (s : State) (n : AxisId) (m : MoveState) (l : Leg) : Calm n s (s.cutAtOnce n m l) :=
  (((s.calm_setWork n _).trans (State.calm_countLeg _ n)).trans (State.calm_setAxisState _ n _)).trans
    (State.calm_setAxisState _ n _)

theorem State.calm_missMove (s : State) (n : AxisId) : Calm n s (s.missMove n) :=
  (s.calm_closeRecord n _).trans (State.calm_enterHeld _ n _)

theorem State.calm_planCorrection (s : State) (n : AxisId) (c : Section) (m : MoveState) (p : Profile) (q e : Int) :
    Calm n s (s.planCorrection n c m p q e) := by
  unfold State.planCorrection; dsimp only; split
  · split
    · exact (s.calm_countCorrection n).trans (State.calm_startMoving _ n _ _)
    · exact s.calm_missMove n
  · exact (s.calm_countCorrection n).trans (State.calm_startMoving _ n _ _)

theorem State.calm_evaluateFinal (s : State) (n : AxisId) (x : Executing) (m : MoveState) (l : Leg) :
    Calm n s (s.evaluateFinal n x m l) := by
  unfold State.evaluateFinal; split
  · exact .refl ..
  · dsimp only; split
    · exact ((s.calm_setWork n _).trans (State.calm_closeRecord _ n _)).trans (State.calm_enterIdle _ n)
    · split
      · exact (s.calm_setWork n _).trans (State.calm_planCorrection _ n ..)
      · exact (s.calm_setWork n _).trans (State.calm_missMove _ n)

theorem State.calm_startFinal (s : State) (n : AxisId) (x : Executing) (m : MoveState) (l : Leg) :
    Calm n s (s.startFinal n x m l) := by
  unfold State.startFinal; split
  · exact s.calm_startMoving n m l
  · dsimp only; split
    · exact (s.calm_cutAtOnce n m l).trans (State.calm_evaluateFinal _ n ..)
    · exact s.calm_cutAtOnce n m l

theorem State.calm_coastEndLeg (s : State) (n : AxisId) (x : Executing) (m : MoveState) (l : Leg) :
    Calm n s (s.coastEndLeg n x m l) := by
  unfold State.coastEndLeg; split
  · exact s.calm_evaluateFinal n x m l
  · split
    · exact s.calm_startFinal n ..
    · exact .refl ..
    · exact .refl ..

theorem State.calm_startSearchMotion (s : State) (n : AxisId) (c : SearchState) :
    Calm n s (s.startSearchMotion n c) := by
  unfold State.startSearchMotion; dsimp only; split
  · exact (s.calm_setWork n _).trans (State.calm_setAxisState _ n _)
  · exact ((s.calm_setWork n _).trans (State.calm_countLeg _ n)).trans (State.calm_setAxisState _ n _)

theorem State.calm_coastEndSearch (s : State) (n : AxisId) (c : SearchState) : Calm n s (s.coastEndSearch n c) := by
  unfold State.coastEndSearch; split
  · exact ((s.calm_setReferenced n _).trans (State.calm_closeRecord _ n _)).trans (State.calm_enterIdle _ n)
  · exact s.calm_startSearchMotion n c

theorem State.calm_coastEnd (s : State) (n : AxisId) : Calm n s (s.coastEnd n) := by
  unfold State.coastEnd; split
  · exact .refl ..
  · split <;> try exact .refl ..
    · split
      · exact s.calm_coastEndLeg n ..
      · exact .refl ..
    · exact s.calm_coastEndSearch n _

theorem State.calm_enterCoasting (s : State) (n : AxisId) : Calm n s (s.enterCoasting n) := by
  unfold State.enterCoasting; dsimp only; split
  · exact (s.calm_setAxisState n _).trans (State.calm_coastEnd _ n)
  · exact s.calm_setAxisState n _

theorem State.calm_enterBackOff (s : State) (n : AxisId) (c : SearchState) : Calm n s (s.enterBackOff n c) := by
  have h := ((s.calm_setWork n (.search { c with motion := .backOff })).trans (State.calm_countLeg _ n)).trans
    (State.calm_setAxisState _ n .seeking)
  unfold State.enterBackOff; dsimp only; split
  · exact h
  · exact h.trans (State.calm_enterCoasting _ n)

theorem State.calm_startSearch (s : State) (n : AxisId) (c : SearchState) (b : Bool) :
    Calm n s (s.startSearch n c b) := by
  unfold State.startSearch; split
  · dsimp only; split
    · exact (s.calm_setWork n _).trans (State.calm_setAxisState _ n _)
    · exact s.calm_enterBackOff n _
  · exact s.calm_startSearchMotion n c

theorem State.calm_pausedLeg (s : State) (n : AxisId) (x : Executing) (m : MoveState) (l : Leg) :
    Calm n s (s.pausedLeg n x m l) := by
  unfold State.pausedLeg; split
  · exact s.calm_driveZone n m l
  · dsimp only; split
    · exact (s.calm_cutAtOnce n m l).trans (State.calm_coastEndLeg _ n ..)
    · exact s.calm_cutAtOnce n m l

theorem State.calm_takePauseElapsed (s : State) (n : AxisId) : Calm n s (s.takePauseElapsed n) := by
  unfold State.takePauseElapsed; split
  · split
    · exact .refl ..
    · split <;> try exact .refl ..
      · split
        · exact s.calm_pausedLeg n ..
        · exact .refl ..
      · split
        · exact s.calm_enterBackOff n _
        · exact ((s.calm_setWork n _).trans (State.calm_countLeg _ n)).trans (State.calm_setAxisState _ n _)
  · exact .refl ..

/-! ### Records -/

theorem State.calm_startMoveTimer (s : State) (n : AxisId) (c : Section) : Calm n s (s.startMoveTimer n c) :=
  s.calm_modSeq n _

theorem State.calm_startMove (s : State) (n : AxisId) (c : Section) (x : Executing) (k : WaypointKind) :
    Calm n s (s.startMove n c x k) := by
  unfold State.startMove; dsimp only; split
  · exact s.calm_closeRecord n _
  · split
    · exact (s.calm_startMoveTimer n c).trans (State.calm_startMoving _ n ..)
    · exact (s.calm_startMoveTimer n c).trans (State.calm_startFinal _ n ..)

theorem State.calm_startSeek (s : State) (n : AxisId) (c : Section) (r : IssueRegion) :
    Calm n s (s.startSeek n c r) := by
  unfold State.startSeek; split
  · exact ((s.calm_modPos n _ (PositionUnit.setPosition_kept _ _)).trans (State.calm_setReferenced _ n _)).trans (State.calm_closeRecord _ n _)
  · exact ((s.calm_setReferenced n _).trans (State.calm_startMoveTimer _ n c)).trans (State.calm_startSearch _ n ..)

theorem State.calm_startAwait (s : State) (n : AxisId) (r : IssueRegion) : Calm n s (s.startAwait n r) := by
  unfold State.startAwait; split
  · exact .refl ..
  · split
    · exact s.calm_closeRecord n _
    · exact (s.calm_setWork n _).trans (State.calm_setAxisState _ n _)

/-- The setup store that a validated RETUNE leaves (R51). -/
def State.retuned (s : State) (r : IssueRegion) : Option Setup :=
  match s.setup, ProfileId.ofSelector r.selector with
  | some c, some i => some { c with profiles := c.profiles.set i ((c.profiles.get i).retuned r.argA r.argB) }
  | some c, none => some c
  | none, _ => none

/-- R51: a RETUNE writes the setup store, and leaves of the rest what `Calm` says. -/
theorem State.calm_startRetune (s : State) (n : AxisId) (r : IssueRegion) :
    Calm n { s with setup := s.retuned r } (s.startRetune n r) := by
  cases h : s.setup <;> cases i : ProfileId.ofSelector r.selector <;> simp only [State.startRetune, State.retuned, h, i]
  · rw [← h]; exact .refl ..
  · rw [← h]; exact .refl ..
  · rw [← h]; exact .refl ..
  · exact State.calm_closeRecord _ n _

/-- The setup store that a validated record leaves. -/
def State.setupAfter (s : State) (k : WaypointKind) (r : IssueRegion) : Option Setup :=
  if k = .retune then s.retuned r else s.setup

theorem State.calm_startKind (s : State) (n : AxisId) (c : Section) (x : Executing) (k : WaypointKind) :
    Calm n { s with setup := s.setupAfter k x.record } (s.startKind n c x k) := by
  cases k
  · exact s.calm_startMove n ..
  · exact s.calm_startMove n ..
  · exact s.calm_startSeek n ..
  · exact (s.calm_modPos n _ ⟨_, _, _, _, _, rfl⟩).trans (State.calm_closeRecord _ n _)
  · exact (s.calm_setWork n _).trans (State.calm_setAxisState _ n _)
  · exact s.calm_startAwait n _
  · exact s.calm_startRetune n _

/-- R51: the setup store changes at an execution start only where the record is a RETUNE that passes validation. -/
theorem State.calm_executionStart (s : State) (n : AxisId) (x : Executing) :
    Calm n s (s.executionStart n x)
      ∨ WaypointKind.ofCode x.record.kind = some .retune
        ∧ (s.profile x.record.selector).accepts x.record.argA x.record.argB = true
        ∧ (ProfileId.ofSelector x.record.selector).isSome = true
        ∧ Calm n { s with setup := s.retuned x.record } (s.executionStart n x) := by
  unfold State.executionStart
  dsimp only
  generalize hy : ({ x with work := .begun, startTime := s.timeBase, legs := 0, corrections := 0 } : Executing) = y
  have er : y.record = x.record := by rw [← hy]
  have begun : Calm n s (s.modSeq n fun q => { q with executing := some y }) := s.calm_modSeq n _
  generalize hu : (s.modSeq n fun q => { q with executing := some y }) = u at begun
  have ep : u.profile = s.profile := by rw [← hu]; rfl
  have eu : ({ u with setup := u.retuned x.record } : State) =
      ({ s with setup := s.retuned x.record } : State).modSeq n fun q => { q with executing := some y } := by
    rw [← hu]; rfl
  cases hs : s.sectionOf n with
  | none => exact .inl (.refl ..)
  | some c =>
    dsimp only
    cases hv : u.validate n c x.record with
    | some o => exact .inl ((begun.trans (State.calm_closeRecord _ n _)).trans (State.calm_enterHeld _ n _))
    | none =>
      dsimp only
      cases hk : WaypointKind.ofCode x.record.kind with
      | none => exact .inl begun
      | some k =>
        have started := u.calm_startKind n c y k
        by_cases h : k = .retune
        · subst h
          rw [er] at started
          rw [show u.setupAfter .retune x.record = u.retuned x.record from if_pos rfl, eu] at started
          simp only [State.validate, hk] at hv
          split at hv
          · cases hv
          · rename_i h1
            split at hv
            · cases hv
            · rename_i h2
              refine .inr ⟨rfl, ?_, ?_, (State.calm_modSeq _ n _).trans started⟩
              · simpa [State.argumentsValid, ep] using h2
              · cases e : ProfileId.ofSelector x.record.selector
                · rw [e] at h1; simp at h1
                · rfl
        · rw [State.setupAfter, if_neg h] at started
          exact .inl (begun.trans started)

/-! ### The route unit and the end of an event -/

/-- A request of route unit n (R140). -/
theorem State.frame_request (s : State) (n : AxisId) (k : RouteAccess) (a : Word) (d : List (Nat × Word)) :
    Frame n s (s.request n k a d) where
  others _ _ := .refl _
  timeBase := rfl
  controller := rfl
  origin := rfl
  loadAddress := rfl
  setupAddr := rfl
  lastCode := rfl
  overrun := rfl
  record := .inl ⟨rfl, rfl, rfl, rfl⟩
  halt := .inl rfl
  setup := rfl
  shadow := rfl
  apertureOpen := rfl
  access := rfl
  pointer := rfl
  chunk := rfl
  waiting _ hm := PerAxis.get_set_ne _ hm _
  xstopHigh := rfl
  reporter := rfl
  attn := ⟨0, by simp [State.request], by simp⟩
  attnMask := rfl
  resetLow := rfl
  freeCount := rfl
  pending := rfl

theorem State.calm_request (s : State) (n : AxisId) (k : RouteAccess) (a : Word) (d : List (Nat × Word)) :
    Calm n s (s.request n k a d) :=
  { s.frame_request n k a d with
    drive := ⟨_, rfl⟩, stopNotices := rfl, refHanded := rfl, pos := ⟨_, _, _, _, _, rfl⟩ }

theorem State.calm_startFetch (s : State) (n : AxisId) : Calm n s (s.startFetch n) := by
  unfold State.startFetch; split
  · exact .refl ..
  · exact (s.calm_modRoute n _).trans (State.calm_request _ n ..)

theorem State.calm_takeHead (s : State) (n : AxisId) : Calm n s (s.takeHead n) := by
  unfold State.takeHead; dsimp only; split
  · exact .refl ..
  · split
    · refine s.calm_setAxis n _ ?_ ?_ ?_ ?_
      · exact ⟨_, rfl⟩
      · rfl
      · rfl
      · exact ⟨_, _, _, _, _, rfl⟩
    · exact .refl ..

theorem State.calm_routeAdvance (s : State) (n : AxisId) : Calm n s (s.routeAdvance n) := by
  refine (s.calm_takeHead n).trans ?_
  unfold State.routeAdvance; dsimp only
  generalize s.takeHead n = t
  repeat' split
  all_goals first
    | exact t.calm_request n ..
    | exact t.calm_startFetch n
    | exact .refl ..

theorem State.frame_driveStep (s : State) (n : AxisId) : Frame n s (s.driveStep n) := by
  unfold State.driveStep; dsimp only; split
  · split
    · exact (s.frame_evalDrive n).trans (State.calm_takePauseElapsed _ n).toFrame
    · exact ((s.frame_evalDrive n).trans (State.calm_takePauseElapsed _ n).toFrame).trans (State.frame_evalDrive _ n)
  · exact s.frame_evalDrive n

theorem State.frame_tellSettled (s : State) (n : AxisId) : Frame n s (s.tellSettled n) := by
  unfold State.tellSettled; split
  · exact .refl ..
  · rename_i h hh
    dsimp only; split
    · exact .refl ..
    · exact
      { others := fun _ _ => .refl _
        timeBase := rfl
        controller := rfl
        origin := rfl
        loadAddress := rfl
        setupAddr := rfl
        lastCode := rfl
        overrun := rfl
        record := .inl ⟨rfl, rfl, rfl, rfl⟩
        halt := .inr ⟨h, _, hh, rfl, rfl, fun m hm => ⟨PerAxis.get_set_ne _ hm _, PerAxis.get_set_ne _ hm _⟩⟩
        setup := rfl
        shadow := rfl
        apertureOpen := rfl
        access := rfl
        pointer := rfl
        chunk := rfl
        waiting := fun _ _ => rfl
        xstopHigh := rfl
        reporter := rfl
        attn := ⟨0, by simp, by simp⟩
        attnMask := rfl
        resetLow := rfl
        freeCount := rfl
        pending := rfl }

theorem State.frame_conclude (s : State) (n : AxisId) : Frame n s (s.conclude n) :=
  ((s.frame_driveStep n).trans (State.calm_routeAdvance _ n).toFrame).trans (State.frame_tellSettled _ n)

theorem State.calm_setDry (s : State) (n : AxisId) : Calm n s (s.setDry n) := by
  unfold State.setDry; split
  · exact .refl ..
  · dsimp only; split
    · exact (s.calm_modRoute n _).trans (State.calm_raise _ n)
    · exact s.calm_modRoute n _

theorem State.calm_fetchEnded (s : State) (n : AxisId) (a : Except Failure IssueRegion) :
    Calm n s (s.fetchEnded n a) := by
  unfold State.fetchEnded; split
  · exact .refl ..
  · dsimp only; split
    · exact (s.calm_modRoute n _).trans (State.calm_takeCause _ n _ _)
    · split
      · exact (s.calm_modRoute n _).trans (State.calm_modRoute _ n _)
      · split
        · exact s.calm_modRoute n _
        · exact (s.calm_modRoute n _).trans (State.calm_setDry _ n)

theorem State.calm_tornStart (s : State) (n : AxisId) (x : Executing) : Calm n s (s.tornStart n x) :=
  (((((s.calm_modSeq n _).trans (State.calm_advanceStamp _ n)).trans (State.calm_modPage _ n _)).trans
    (State.calm_pageDue _ n)).trans (State.calm_raise _ n)).trans (State.calm_enterHeld _ n _)

theorem State.calm_verificationFailed (s : State) (n : AxisId) (f : Failure) :
    Calm n s (s.verificationEnded n (.error f)) := by
  unfold State.verificationEnded; split
  · exact .refl ..
  · split
    · exact s.calm_takeCause n _ _
    · exact .refl ..

/-- The end of a verification re-read with data: the setup store changes only by a RETUNE that passes validation. -/
theorem State.calm_verificationEnded (s : State) (n : AxisId) (r : IssueRegion) :
    Calm n s (s.verificationEnded n (.ok r))
      ∨ (∃ x, (s.axis n).seq.executing = some x ∧ x.record = r) ∧ WaypointKind.ofCode r.kind = some .retune
        ∧ (s.profile r.selector).accepts r.argA r.argB = true
        ∧ (ProfileId.ofSelector r.selector).isSome = true
        ∧ Calm n { s with setup := s.retuned r } (s.verificationEnded n (.ok r)) := by
  unfold State.verificationEnded; split
  · exact .inl (.refl ..)
  · rename_i x hx
    split
    · dsimp only; split
      · rename_i hr
        subst hr
        rcases s.calm_executionStart n x with h | ⟨h1, h2, h3, h4⟩
        · exact .inl h
        · exact .inr ⟨⟨x, hx, rfl⟩, h1, h2, h3, h4⟩
      · exact .inl (s.calm_tornStart n _)
    · exact .inl (.refl ..)

theorem State.calm_fillLatch (s : State) (n : AxisId) (e : ClosureEntry) : Calm n s (s.fillLatch n e) :=
  (((((s.calm_modRoute n _).trans (State.calm_modSeq _ n _)).trans (State.calm_modPage _ n _)).trans
    (State.calm_pageDue _ n)).trans (State.calm_raise _ n)).trans (State.calm_takeCause _ n _ _)

theorem State.calm_tornClosure (s : State) (n : AxisId) (e : ClosureEntry) : Calm n s (s.tornClosure n e) :=
  ((((s.calm_modRoute n _).trans (State.calm_modPage _ n _)).trans (State.calm_pageDue _ n)).trans
    (State.calm_raise _ n)).trans (State.calm_takeCause _ n _ _)

theorem State.calm_closureRereadEnded (s : State) (n : AxisId) (a : Except Failure IssueRegion) :
    Calm n s (s.closureRereadEnded n a) := by
  unfold State.closureRereadEnded; split
  · split
    · exact s.calm_fillLatch n _
    · split
      · exact s.calm_modRoute n _
      · exact s.calm_tornClosure n _
  · exact .refl ..
  · exact .refl ..

theorem State.calm_outcomeWriteEnded (s : State) (n : AxisId) (a : Except Failure Unit) :
    Calm n s (s.outcomeWriteEnded n a) := by
  unfold State.outcomeWriteEnded; split
  · split
    · exact s.calm_fillLatch n _
    · dsimp only; split
      · exact (((s.calm_modRoute n _).trans (State.calm_modPage _ n _)).trans (State.calm_pageDue _ n)).trans
          (State.calm_raise _ n)
      · exact ((s.calm_modRoute n _).trans (State.calm_modPage _ n _)).trans (State.calm_pageDue _ n)
  · exact .refl ..
  · exact .refl ..

/-- R75: but for the result, a release leaves what `Calm` says. -/
theorem State.calm_completeRelease (s : State) (n : AxisId) : Calm n (s.finish .done 0 0) (s.completeRelease n) := by
  have h := (State.calm_modSeq (s.finish .done 0 0) n
    fun q => { q with heldCause := none, later := 0, handed := [] }).trans
      (State.calm_modRoute _ n fun r => { r with dry := false, patrolStart := none })
  unfold State.completeRelease; dsimp only; split
  · exact (h.trans (State.calm_raise _ n)).trans (State.calm_enterIdle _ n)
  · exact h.trans (State.calm_enterIdle _ n)

theorem State.finish_pageDue (s : State) (n : AxisId) (r : Result) (d i : Byte) :
    (s.pageDue n).finish r d i = (s.finish r d i).pageDue n := by
  have e : (s.finish r d i).axis n = s.axis n := rfl
  unfold State.pageDue
  rw [e]
  split <;> rfl

/-- R76: but for the result, DONE with XSTOP_N high and REFUSED_STATE with it low, the end of a delivery that empties the
latch leaves what `Calm` says. -/
theorem State.calm_deliveryEmptied (s : State) (n : AxisId) :
    Calm n (s.finish (if s.xstopHigh then .done else .refusedState) 0 0) (s.deliveryEmptied n) := by
  have e := (s.modSeq n fun q => { q with latch := none, delivery := none }).calm_pageDue n
  have x : ((s.modSeq n fun q => { q with latch := none, delivery := none }).pageDue n).xstopHigh = s.xstopHigh :=
    e.xstopHigh
  have go : ∀ r : Result, Calm n (s.finish r 0 0)
      (((s.modSeq n fun q => { q with latch := none, delivery := none }).pageDue n).finish r 0 0) := fun r => by
    rw [State.finish_pageDue]
    exact (State.calm_modSeq (s.finish r 0 0) n fun q => { q with latch := none, delivery := none }).trans
      (State.calm_pageDue _ n)
  unfold State.deliveryEmptied; dsimp only; rw [x]; split
  · exact (go .done).trans (State.calm_completeRelease _ n)
  · exact go .refusedState

/-- R76: but for the result, a failed delivery leaves what `Calm` says. -/
theorem State.calm_deliveryFailed (s : State) (n : AxisId) (f : Failure) :
    Calm n (s.finishAccess f) (s.deliveryFailed n f) := by
  have e : s.deliveryFailed n f = { (((s.finishAccess f).modSeq n fun q => { q with delivery := none }).joinLater n .accessClose) with
      attn := s.attn ||| axisAttnBit n ||| commandAttnBit } := rfl
  have a : s.attn ||| axisAttnBit n ||| commandAttnBit = s.attn ||| commandAttnBit ||| axisAttnBit n := by
    rw [BitVec.or_assoc, BitVec.or_comm (axisAttnBit n), ← BitVec.or_assoc]
  rw [e, a]
  exact (State.calm_modSeq (s.finishAccess f) n fun q => { q with delivery := none }).trans (State.calm_joinLater _ n _)

/-- R75, R76: what the end of a delivery's access leaves: all that `Calm` says, but for the result of the release where the
access was the delivery's and ends it. -/
def State.DeliveryLeaves (n : AxisId) (s t : State) : Prop :=
  Calm n s t
    ∨ (s.axis n).seq.delivery.isSome = true ∧ (s.axis n).seq.latch.isSome = true
      ∧ ((∃ r, (r = .done ∨ r = .refusedState) ∧ Calm n (s.finish r 0 0) t) ∨ ∃ f, Calm n (s.finishAccess f) t)

theorem State.leaves_deliveryEmptied (s : State) (n : AxisId) (g : PageUnit → PageUnit) :
    ∃ r, (r = .done ∨ r = .refusedState) ∧ Calm n (s.finish r 0 0) ((s.modPage n g).deliveryEmptied n) := by
  refine ⟨if s.xstopHigh then .done else .refusedState, by split <;> simp, ?_⟩
  exact (State.calm_modPage (s.finish (if s.xstopHigh then .done else .refusedState) 0 0) n g).trans
    (State.calm_deliveryEmptied (s.modPage n g) n)

theorem State.leaves_deliveryRereadEnded (s : State) (n : AxisId) (a : Except Failure IssueRegion) :
    DeliveryLeaves n s (s.deliveryRereadEnded n a) := by
  unfold State.deliveryRereadEnded; split <;> try exact .inl (.refl ..)
  rename_i e hd hl
  split
  · exact .inr ⟨by simp [hd], by simp [hl], .inr ⟨_, s.calm_deliveryFailed n _⟩⟩
  · split
    · exact .inl (s.calm_modSeq n _)
    · exact .inr ⟨by simp [hd], by simp [hl], .inl (s.leaves_deliveryEmptied n _)⟩

theorem State.leaves_deliveryWriteEnded (s : State) (n : AxisId) (a : Except Failure Unit) :
    DeliveryLeaves n s (s.deliveryWriteEnded n a) := by
  unfold State.deliveryWriteEnded; split <;> try exact .inl (.refl ..)
  rename_i e hd hl
  split
  · exact .inr ⟨by simp [hd], by simp [hl], .inr ⟨_, s.calm_deliveryFailed n _⟩⟩
  · exact .inr ⟨by simp [hd], by simp [hl], .inl
      ⟨if s.xstopHigh then .done else .refusedState, by split <;> simp, s.calm_deliveryEmptied n⟩⟩

theorem State.leaves_routeFailed (s : State) (n : AxisId) (k : RouteAccess) (f : Failure) :
    DeliveryLeaves n s (s.routeFailed n k f) := by
  unfold State.routeFailed; split
  · exact .inl (s.calm_fetchEnded n _)
  · exact .inl (s.calm_verificationFailed n _)
  · exact .inl (s.calm_closureRereadEnded n _)
  · exact .inl (s.calm_outcomeWriteEnded n _)
  · exact s.leaves_deliveryRereadEnded n _
  · exact s.leaves_deliveryWriteEnded n _

/-- R180: but for the result of a SNAPSHOT that it answers, a failed page write leaves what `Calm` says. -/
theorem State.calm_pageFailed (s : State) (n : AxisId) (b : Bool) (f : Failure) :
    Calm n (if b && s.snapshotPending n then s.finishAccess f else s) (s.pageFailed n b f) := by
  have e : ((s.modPage n fun g => { g with stale := true }).raise (axisAttnBit n)).snapshotPending n
    = s.snapshotPending n := rfl
  unfold State.pageFailed; dsimp only; rw [e]; split
  · have a : s.attn ||| axisAttnBit n ||| commandAttnBit = s.attn ||| commandAttnBit ||| axisAttnBit n := by
      rw [BitVec.or_assoc, BitVec.or_comm (axisAttnBit n), ← BitVec.or_assoc]
    have c : ((s.modPage n fun g => { g with stale := true }).raise (axisAttnBit n)).finishAccess f
        = ((s.finishAccess f).modPage n fun g => { g with stale := true }).raise (axisAttnBit n) := by
      simp only [State.finishAccess, State.finish, State.raise, State.modPage, State.setAxis, a]
      rfl
    rw [c]
    exact ((State.calm_modPage _ n _).trans (State.calm_raise _ n)).trans (State.calm_takeCause _ n _ _)
  · exact ((s.calm_modPage n _).trans (State.calm_raise _ n)).trans (State.calm_takeCause _ n _ _)

/-- R179: but for the result of a SNAPSHOT that it answers, a page written leaves what `Calm` says. -/
theorem State.calm_pageWritten (s : State) (n : AxisId) (b : Bool) :
    Calm n (if b && s.snapshotPending n then s.finish .done 0 0 else s) (s.pageWritten n b) := by
  have e : (s.modPage n fun g => { g with stale := false }).snapshotPending n = s.snapshotPending n := rfl
  unfold State.pageWritten; dsimp only; rw [e]; split
  · exact State.calm_modPage (s.finish .done 0 0) n fun g => { g with stale := false }
  · exact s.calm_modPage n _

/-! ### The inputs -/

theorem State.calm_legCounts (s : State) (n : AxisId) (x : Executing) (m : MoveState) (l : Leg) (k : Int) :
    Calm n s (s.legCounts n x m l k) := by
  unfold State.legCounts; dsimp only
  split <;> try exact s.calm_setWork n _
  · split
    · exact (s.calm_setWork n _).trans (State.calm_enterCoasting _ n)
    · split
      · split
        · exact (((s.calm_setWork n _).trans (State.calm_setAxisState _ n _)).trans (State.calm_raise _ n)).trans
            (State.calm_pageDue _ n)
        · exact (s.calm_setWork n _).trans (State.calm_setAxisState _ n _)
      · exact s.calm_setWork n _
  · split
    · exact (s.calm_setWork n _).trans (State.calm_enterCoasting _ n)
    · exact s.calm_setWork n _

theorem State.calm_searchCounts (s : State) (n : AxisId) (x : Executing) (c : SearchState) (k : Int) :
    Calm n s (s.searchCounts n x c k) := by
  unfold State.searchCounts; split
  · dsimp only; split
    · exact (s.calm_setWork n _).trans (State.calm_enterStopping _ n _ _)
    · exact s.calm_setWork n _
  · exact .refl ..

theorem State.calm_sequencerCounts (s : State) (n : AxisId) (k : Int) : Calm n s (s.sequencerCounts n k) := by
  unfold State.sequencerCounts; split
  · exact .refl ..
  · split <;> try exact .refl ..
    · split
      · exact s.calm_legCounts n ..
      · exact .refl ..
    · exact s.calm_searchCounts n ..

theorem State.calm_testPulse (s : State) (n : AxisId) : Calm n s (s.testPulse n) := by
  unfold State.testPulse; split
  · exact .refl ..
  · exact ((s.calm_modPos n _ (PositionUnit.setPosition_span_kept _ _)).trans (State.calm_setWork _ n _)).trans (State.calm_enterCoasting _ n)

theorem State.calm_takeSlip (s : State) (n : AxisId) (b : Bool) : Calm n s (s.takeSlip n b) := by
  unfold State.takeSlip; split
  · exact s.calm_loseReference n _ _
  · exact .refl ..

theorem State.calm_endBackOff (s : State) (n : AxisId) : Calm n s (s.endBackOff n) := by
  unfold State.endBackOff; split
  · split
    · exact .refl ..
    · split <;> try exact .refl ..
      split
      · exact s.calm_enterCoasting n
      · exact .refl ..
  · exact .refl ..

theorem State.calm_sequencerRests (s : State) (n : AxisId) : Calm n s (s.sequencerRests n) := by
  unfold State.sequencerRests; split <;> try exact .refl ..
  · exact s.calm_coastEnd n
  · exact s.calm_finishStopping n

end Sys2Proof.Machine
end

