-- ==== Sys2Proof/Laws/Drive.lean ====
section
/-! SUPPORT. The drive stage: each operation on its lines keeps `DriveStage.Sound`, and an evaluation of the drive stage
gives `State.LineJustified` (R125, R126, R128, R130, R132) and `State.RestTimed` (R129), and is an event in the sense of
`DriveStage.Carries`. -/

namespace Sys2Proof.Machine

/-! ### The operations of a drive stage -/

theorem DriveStage.running_lockout (v : DriveStage) (b : Bool) : ({ v with lockout := b } : DriveStage).running = v.running := rfl

theorem DriveStage.Sound.lockout {v : DriveStage} (h : v.Sound) (b : Bool) : ({ v with lockout := b } : DriveStage).Sound :=
  ⟨h.rapid_runs, h.split_one, h.none_runs, h.none_direction, h.drop_stopped, h.drop_holds⟩

theorem DriveStage.Sound.revClear {v : DriveStage} (h : v.Sound) (b : Bool) : ({ v with revClear := b } : DriveStage).Sound :=
  ⟨h.rapid_runs, h.split_one, h.none_runs, h.none_direction, h.drop_stopped, h.drop_holds⟩

theorem DriveStage.Sound.dirSetup {v : DriveStage} (h : v.Sound) (b : Bool) : ({ v with dirSetup := b } : DriveStage).Sound :=
  ⟨h.rapid_runs, h.split_one, h.none_runs, h.none_direction, h.drop_stopped, h.drop_holds⟩

theorem DriveStage.sound_reset : DriveStage.reset.Sound := by
  constructor <;> simp [DriveStage.reset, DriveStage.running]

theorem DriveStage.rest_running (v : DriveStage) (b : Bool) (t : Word) : (v.rest b t).running = v.running := by
  unfold DriveStage.rest; split
  · rfl
  · split <;> rfl

theorem DriveStage.rest_sound {v : DriveStage} (h : v.Sound) (b : Bool) (t : Word) : (v.rest b t).Sound := by
  unfold DriveStage.rest; split
  · exact ⟨h.rapid_runs, h.split_one, h.none_runs, h.none_direction, h.drop_stopped, h.drop_holds⟩
  · split
    · exact h
    · exact ⟨h.rapid_runs, h.split_one, h.none_runs, h.none_direction, h.drop_stopped, h.drop_holds⟩

theorem DriveStage.rest_kept (v : DriveStage) (b : Bool) (t : Word) :
    (v.rest b t).rapid = v.rapid ∧ (v.rest b t).lockout = v.lockout ∧ (v.rest b t).mode = v.mode
      ∧ (v.rest b t).lastDir = v.lastDir ∧ (v.rest b t).runFwd = v.runFwd ∧ (v.rest b t).runRev = v.runRev
      ∧ (v.rest b t).pause = v.pause := by
  unfold DriveStage.rest; split
  · simp
  · split <;> simp

theorem DriveStage.deactivate_running (v : DriveStage) : v.deactivate.running = none := by
  unfold DriveStage.deactivate DriveStage.running; cases hm : v.mode <;> simp

theorem DriveStage.deactivate_sound {v : DriveStage} (h : v.Sound) : v.deactivate.Sound := by
  have h1 := h.none_runs; have h2 := h.none_direction; have h3 := h.drop_holds; have h4 := h.drop_stopped
  unfold DriveStage.deactivate
  constructor <;> cases hm : v.mode <;> simp_all [DriveStage.running]

theorem DriveStage.deactivate_kept (v : DriveStage) :
    v.deactivate.lockout = v.lockout ∧ v.deactivate.mode = v.mode ∧ v.deactivate.lastDir = v.lastDir
      ∧ v.deactivate.rapid = false := by
  unfold DriveStage.deactivate; cases v.mode <;> simp

/-- What `follow` can do: leave the direction memory and the rest as they are, with the run line as it was or inactive, or take
the run line active from inactive, for the direction wanted. -/
theorem DriveStage.follow_cases {v : DriveStage} (h : v.Sound) (want : Option (Direction × Bool)) :
    ((v.follow want).mode = v.mode ∧ (v.follow want).pause = v.pause)
      ∧ (((v.follow want).running = v.running ∨ (v.follow want).running = none) ∧ (v.follow want).lastDir = v.lastDir
          ∧ (v.follow want).revClear = v.revClear ∧ (v.follow want).restStart = v.restStart
        ∨ ∃ d fast, want = some (d, fast) ∧ v.running = none ∧ (v.follow want).running = some d
            ∧ (v.follow want).lastDir = some d ∧ (v.follow want).revClear = false ∧ (v.follow want).restStart = none) := by
  have h1 := h.none_runs; have h3 := h.drop_holds; have h4 := h.drop_stopped; have h6 := h.split_one
  have off : (v.deactivate.mode = v.mode ∧ v.deactivate.pause = v.pause)
      ∧ ((v.deactivate.running = v.running ∨ v.deactivate.running = none) ∧ v.deactivate.lastDir = v.lastDir
          ∧ v.deactivate.revClear = v.revClear ∧ v.deactivate.restStart = v.restStart
        ∨ ∃ d fast, want = some (d, fast) ∧ v.running = none ∧ v.deactivate.running = some d
            ∧ v.deactivate.lastDir = some d ∧ v.deactivate.revClear = false ∧ v.deactivate.restStart = none) := by
    refine ⟨?_, .inl ⟨.inr v.deactivate_running, ?_⟩⟩ <;> unfold DriveStage.deactivate <;> cases v.mode <;> simp
  unfold DriveStage.follow
  split
  · split
    · exact ⟨⟨rfl, rfl⟩, .inl ⟨.inl rfl, rfl, rfl, rfl⟩⟩
    · exact off
  · exact off
  · exact ⟨⟨rfl, rfl⟩, .inl ⟨.inl rfl, rfl, rfl, rfl⟩⟩
  · rename_i d fast hr
    cases hm : v.mode
    · exact ⟨⟨hm, rfl⟩, .inl ⟨.inl rfl, rfl, rfl, rfl⟩⟩
    · dsimp only; split
      · exact ⟨⟨hm, rfl⟩, .inl ⟨.inl rfl, rfl, rfl, rfl⟩⟩
      · unfold DriveStage.activate
        refine ⟨?_, .inr ⟨d, fast, rfl, hr, ?_⟩⟩
        · simp [hm]
        · simp only [hm]; cases d <;> simp_all [DriveStage.running]
    · dsimp only; split
      · split
        · exact ⟨⟨hm, rfl⟩, .inl ⟨.inl rfl, rfl, rfl, rfl⟩⟩
        · unfold DriveStage.activate
          refine ⟨?_, .inr ⟨d, fast, rfl, hr, ?_⟩⟩
          · simp [hm]
          · simp only [hm]; cases d <;> simp_all [DriveStage.running]
      · split
        · exact ⟨⟨hm, rfl⟩, .inl ⟨.inl rfl, rfl, rfl, rfl⟩⟩
        · refine ⟨⟨rfl, rfl⟩, .inl ⟨.inr ?_, rfl, rfl, rfl⟩⟩
          simp only [DriveStage.running, hm] at hr ⊢
          cases hv : v.runFwd <;> simp_all

/-- R129: what `rest` does to the rest start and the reversal clear flag. -/
theorem DriveStage.rest_cases (v : DriveStage) (standing : Bool) (now : Word) :
    ((v.running.isSome = true ∨ standing = false) ∧ (v.rest standing now).restStart = none
        ∧ (v.rest standing now).revClear = v.revClear)
      ∨ v.running = none ∧ standing = true
        ∧ ((∃ r, v.restStart = some r) ∧ v.rest standing now = v
          ∨ v.restStart = none ∧ (v.rest standing now).restStart = some now
            ∧ (v.rest standing now).revClear = (v.revClear || v.pause == 0)) := by
  unfold DriveStage.rest
  split
  · rename_i h; simp only [Bool.or_eq_true, Bool.not_eq_true'] at h
    exact .inl ⟨h, rfl, rfl⟩
  · rename_i h; simp only [Bool.or_eq_true, Bool.not_eq_true', not_or, Bool.not_eq_false, Bool.not_eq_true,
      Option.isSome_eq_false_iff, Option.isNone_iff_eq_none] at h
    refine .inr ⟨h.1, h.2, ?_⟩
    split
    · rename_i r hr; exact .inl ⟨⟨r, hr⟩, rfl⟩
    · rename_i hr; exact .inr ⟨hr, rfl, rfl⟩

theorem DriveStage.Carries.refl (elapsed kept : Prop) (now : Word) (v : DriveStage) :
    DriveStage.Carries elapsed kept now v v where
  starts _ h h' := absurd h h'
  last_kept _ := rfl
  rest_reading _ h := .inl h
  flag_set h := .inl h
  flag_at_once h h' := by rw [h] at h'; cases h'
  flag_kept _ h h' := by rw [h] at h'; cases h'
  set_kept _ := ⟨rfl, rfl⟩

/-- `DriveStage.Carries` reads six fields of the drive stage before the event. -/
theorem DriveStage.Carries.of_same {elapsed kept : Prop} {now : Word} {v u w : DriveStage}
    (h : DriveStage.Carries elapsed kept now u w) (hr : u.running = v.running) (hd : u.lastDir = v.lastDir)
    (hs : u.restStart = v.restStart) (hc : u.revClear = v.revClear) (hm : u.mode = v.mode) (hp : u.pause = v.pause) :
    DriveStage.Carries elapsed kept now v w where
  starts := by rw [← hr, ← hd, ← hc]; exact h.starts
  last_kept := by rw [← hd]; exact h.last_kept
  rest_reading := by rw [← hs]; exact h.rest_reading
  flag_set := by rw [← hc]; exact h.flag_set
  flag_at_once := by rw [← hs]; exact h.flag_at_once
  flag_kept := by rw [← hc, ← hr]; exact h.flag_kept
  set_kept := by rw [← hm, ← hp]; exact h.set_kept

/-- R129: an event that begins as the drive stage takes the standstill condition: what it then carries on, it carries from
before, where a pause of 0 ms that ends so counts as elapsed. -/
theorem DriveStage.Carries.after_rest {elapsed kept : Prop} {now : Word} {v w : DriveStage} {standing : Bool}
    (h : ∀ kept, DriveStage.Carries elapsed kept now (v.rest standing now) w)
    (hv : v.running.isSome = true → v.restStart = none)
    (hw : w.restStart = none ↔ w.running.isSome = true ∨ standing = false)
    (he : v.pause = 0 → v.running = none → v.restStart = none → standing = true → elapsed) :
    DriveStage.Carries elapsed kept now v w := by
  have c := h kept
  have hk := v.rest_kept standing now
  have hr := v.rest_running standing now
  rcases v.rest_cases standing now with ⟨h1, h2, h3⟩ | ⟨h1, h2, ⟨_, e⟩ | ⟨h3, h4, h5⟩⟩
  · refine { c.of_same (v := { v with restStart := none }) hr hk.2.2.2.1 h2 h3 hk.2.2.1 hk.2.2.2.2.2.2 with
      rest_reading := fun r hs => ?_, flag_at_once := fun hn hs hz => c.flag_at_once h2 hs hz }
    rcases h1 with h1 | h1
    · exact .inr ⟨hv h1, (c.rest_reading r hs).elim (fun e => by rw [h2] at e; cases e) And.right⟩
    · rw [hw.mpr (.inr h1)] at hs; cases hs
  · rw [e] at c; exact c
  · have stays : w.running = none → w.revClear = (v.rest standing now).revClear ∨ w.revClear = true := by
      intro hn
      cases hq : w.revClear
      · cases hq' : (v.rest standing now).revClear
        · exact .inl rfl
        · have := ((h True).flag_kept trivial hq' hq).2
          rw [hn] at this; cases this
      · exact .inr rfl
    have rests : w.restStart.isSome = true → w.running = none := by
      intro hs
      cases hq : w.running
      · rfl
      · rw [hw.mpr (.inl (by rw [hq]; rfl))] at hs; cases hs
    have hpause : w.pause = v.pause := ((h True).set_kept trivial).2.trans hk.2.2.2.2.2.2
    refine ⟨fun d hd hne => ?_, fun hn => (c.last_kept hn).trans hk.2.2.2.1, fun r hs => ?_, fun hs => ?_, fun _ hs hz => ?_,
      fun hkept hs hs' => ?_, fun hkept => ?_⟩
    · obtain ⟨k1, k2, k3, k4⟩ := c.starts d hd (by rw [hr]; exact hne)
      refine ⟨h1, k2, k3, fun hl => ?_⟩
      rcases k4 (hk.2.2.2.1.trans hl) with k | k
      · rw [h5] at k
        simp only [Bool.or_eq_true, beq_iff_eq] at k
        exact k.imp id fun hz => he hz h1 h3 h2
      · exact .inr k
    · rcases c.rest_reading r hs with k | ⟨k, _⟩
      · rw [h4] at k; cases k; exact .inr ⟨h3, rfl⟩
      · rw [h4] at k; cases k
    · rcases c.flag_set hs with k | k
      · rw [h5] at k
        simp only [Bool.or_eq_true, beq_iff_eq] at k
        refine k.imp id fun hz => ?_
        have hn : w.running = none := by
          cases hq : w.running with
          | none => rfl
          | some d =>
            have := (c.starts d hq (by rw [hr, h1]; simp)).2.2.1
            rw [hs] at this; cases this
        cases hq : w.restStart with
        | none =>
          rcases hw.mp hq with k | k
          · rw [hn] at k; cases k
          · rw [h2] at k; cases k
        | some r => exact ⟨r, hq, by rw [hpause, hz]; exact Nat.zero_le _⟩
      · exact .inr k
    · rcases stays (rests hs) with k | k
      · rw [k, h5, ← hpause, hz]; simp
      · exact k
    · obtain ⟨_, k⟩ := c.flag_kept hkept (by rw [h5, hs]; rfl) hs'
      exact ⟨h1, k⟩
    · exact ⟨(c.set_kept hkept).1.trans hk.2.2.1, (c.set_kept hkept).2.trans hk.2.2.2.2.2.2⟩

/-- R128: an active run line has its direction as the last driven direction. -/
def DriveStage.Driven (v : DriveStage) : Prop := ∀ d, v.running = some d → v.lastDir = some d

/-- R125, R128 to R130: what one evaluation of the drive stage does, where what is wanted needs no reversal pause. -/
theorem DriveStage.eval_spec {v : DriveStage} (h : v.Sound) (hd : v.Driven) (want : Option (Direction × Bool))
    (hw : ∀ d fast, want = some (d, fast) → v.needsPause d = false) (standing : Bool) (now : Word) :
    ((v.follow want).rest standing now).Driven
      ∧ (((v.follow want).rest standing now).restStart = none ↔
          ((v.follow want).rest standing now).running.isSome = true ∨ standing = false)
      ∧ ∀ elapsed kept, DriveStage.Carries elapsed kept now v ((v.follow want).rest standing now) := by
  obtain ⟨⟨hm, hp⟩, hf⟩ := DriveStage.follow_cases h want
  have hk := DriveStage.rest_kept (v.follow want) standing now
  have hr := DriveStage.rest_running (v.follow want) standing now
  have hc := DriveStage.rest_cases (v.follow want) standing now
  generalize v.follow want = u at hm hp hf hk hr hc ⊢
  refine ⟨?_, ?_, fun elapsed kept => ⟨?_, ?_, ?_, ?_, ?_, ?_, fun _ => ⟨hk.2.2.1.trans hm, hk.2.2.2.2.2.2.trans hp⟩⟩⟩
  · intro d hd'
    rw [hr] at hd'
    rw [hk.2.2.2.1]
    rcases hf with ⟨e | e, e', _⟩ | ⟨d', fast, _, _, e, e', _⟩
    · rw [e']; rw [e] at hd'; exact hd d hd'
    · rw [e] at hd'; cases hd'
    · rw [e] at hd'; cases hd'; exact e'
  · rw [hr]
    rcases hc with ⟨h1, h2, _⟩ | ⟨h1, h2, ⟨⟨r, hr'⟩, e⟩ | ⟨_, e, _⟩⟩
    · simp [h1, h2]
    · rw [e, hr', h1, h2]; simp
    · rw [e, h1, h2]; simp
  · intro d hd' hne
    rw [hr] at hd'
    rw [hk.2.2.2.1]
    rcases hf with ⟨e | e, _⟩ | ⟨d', fast, e0, e1, e, e', e'', _⟩
    · exact absurd (e ▸ hd') hne
    · rw [e] at hd'; cases hd'
    · rw [e] at hd'; cases hd'
      refine ⟨e1, e', ?_, fun hl => .inl ?_⟩
      · rcases hc with ⟨_, _, h3⟩ | ⟨h1, _⟩
        · exact h3.trans e''
        · rw [e] at h1; cases h1
      · have := hw d fast e0
        unfold DriveStage.needsPause at this
        rw [hl] at this
        simpa using this
  · intro hn
    rw [hr] at hn
    rw [hk.2.2.2.1]
    rcases hf with ⟨_, e, _⟩ | ⟨_, _, _, _, e, _⟩
    · exact e
    · rw [e] at hn; cases hn
  · intro r hr'
    rcases hc with ⟨_, h2, _⟩ | ⟨h1, _, ⟨_, e⟩ | ⟨e0, e, _⟩⟩
    · rw [h2] at hr'; cases hr'
    · rcases hf with ⟨_, _, _, e'⟩ | ⟨_, _, _, _, e', _⟩
      · rw [e, e'] at hr'; exact .inl hr'
      · rw [e'] at h1; cases h1
    · rcases hf with ⟨_, _, _, e'⟩ | ⟨_, _, _, _, e', _⟩
      · rw [e] at hr'; cases hr'; exact .inr ⟨e' ▸ e0, rfl⟩
      · rw [e'] at h1; cases h1
  · intro hs
    have keep : u.revClear = true → v.revClear = true := by
      intro hu
      rcases hf with ⟨_, _, e, _⟩ | ⟨_, _, _, _, _, _, e, _⟩
      · exact e ▸ hu
      · rw [e] at hu; cases hu
    rcases hc with ⟨_, _, h3⟩ | ⟨_, _, ⟨_, e⟩ | ⟨_, e, e'⟩⟩
    · exact .inl (keep (h3 ▸ hs))
    · exact .inl (keep (by rw [e] at hs; exact hs))
    · rw [e'] at hs
      simp only [Bool.or_eq_true, beq_iff_eq] at hs
      rcases hs with hs | hs
      · exact .inl (keep hs)
      · exact .inr ⟨now, e, by rw [hk.2.2.2.2.2.2, hs]; exact Nat.zero_le _⟩
  · intro hn hs hz
    rcases hc with ⟨_, h2, _⟩ | ⟨h1, _, ⟨⟨r, hr'⟩, _⟩ | ⟨_, _, e'⟩⟩
    · rw [h2] at hs; cases hs
    · rcases hf with ⟨_, _, _, e⟩ | ⟨_, _, _, _, e, _⟩
      · rw [e, hn] at hr'; cases hr'
      · rw [e] at h1; cases h1
    · rw [e', ← hk.2.2.2.2.2.2, hz]; simp
  · intro _ hv hs
    rw [hr]
    rcases hf with ⟨_, _, e, _⟩ | ⟨_, _, _, e1, e, _⟩
    · rcases hc with ⟨_, _, h3⟩ | ⟨_, _, ⟨_, e'⟩ | ⟨_, _, e'⟩⟩
      · rw [h3, e, hv] at hs; cases hs
      · rw [e', e, hv] at hs; cases hs
      · rw [e', e, hv] at hs; cases hs
    · exact ⟨e1, by rw [e]; rfl⟩

/-- What the lines follow: after it an active run line is the one wanted, with RAPID as wanted, and soundness stays. -/
theorem DriveStage.follow_spec {v : DriveStage} (h : v.Sound) (want : Option (Direction × Bool)) :
    (v.follow want).Sound ∧ (v.follow want).lockout = v.lockout
      ∧ ∀ d, (v.follow want).running = some d → want = some (d, (v.follow want).rapid) := by
  have h1 := h.none_runs; have h2 := h.none_direction; have h3 := h.drop_holds; have h4 := h.drop_stopped
  have h5 := h.rapid_runs; have h6 := h.split_one
  unfold DriveStage.follow
  split
  · rename_i a d fast hr
    split
    · subst_vars
      refine ⟨⟨?_, h6, h1, h2, h4, h3⟩, rfl, ?_⟩
      · intro h'; rw [show ({ v with rapid := fast } : DriveStage).running = v.running from rfl, hr] at h'; cases h'
      · intro d' h'; rw [show ({ v with rapid := fast } : DriveStage).running = v.running from rfl, hr] at h'; cases h'; rfl
    · refine ⟨deactivate_sound h, v.deactivate_kept.1, ?_⟩
      intro d' h'; rw [deactivate_running] at h'; cases h'
  · refine ⟨deactivate_sound h, v.deactivate_kept.1, ?_⟩
    intro d' h'; rw [deactivate_running] at h'; cases h'
  · rename_i hr
    refine ⟨h, rfl, ?_⟩
    intro d' h'; rw [hr] at h'; cases h'
  · rename_i d fast hr
    cases hm : v.mode
    · refine ⟨h, rfl, ?_⟩
      intro d' h'; rw [hr] at h'; cases h'
    · dsimp only; split
      · refine ⟨h, rfl, ?_⟩
        intro d' h'; rw [hr] at h'; cases h'
      · rename_i hdd
        simp only [Bool.not_eq_true] at hdd
        unfold DriveStage.activate; simp only [hm]
        refine ⟨?_, trivial, ?_⟩
        · constructor <;> cases d <;> simp_all [DriveStage.running]
        · intro d'; cases d <;> cases d' <;> simp_all [DriveStage.running]
    · dsimp only; split
      · rename_i hrev
        split
        · refine ⟨h, rfl, ?_⟩
          intro d' h'; rw [hr] at h'; cases h'
        · unfold DriveStage.activate; simp only [hm]
          refine ⟨?_, trivial, ?_⟩
          · constructor <;> cases d <;> simp_all [DriveStage.running]
          · intro d'; cases d <;> cases d' <;> simp_all [DriveStage.running]
      · split
        · refine ⟨h, rfl, ?_⟩
          intro d' h'; rw [hr] at h'; cases h'
        · refine ⟨?_, rfl, ?_⟩
          · have hf : v.runFwd = false := by
              simp only [DriveStage.running, hm] at hr; cases hv : v.runFwd <;> simp_all
            have h5' := h5 hr
            constructor <;> simp_all [DriveStage.running]
          · intro d' h'
            simp only [DriveStage.running, hm] at hr h'
            cases hv : v.runFwd <;> simp_all

theorem DriveStage.dropDirection_sound {v : DriveStage} (h : v.Sound) :
    v.dropDirection.runFwd = false ∧ v.dropDirection.rapid = false
      ∧ (v.dropDirection.runRev = true → v.dropDirection.dirDrop = true)
      ∧ (v.dropDirection.dirDrop = true → v.dropDirection.dirHold = true)
      ∧ v.dropDirection.lockout = v.lockout ∧ v.dropDirection.lastDir = v.lastDir := by
  have h1 := h.none_runs; have h2 := h.none_direction; have h3 := h.drop_holds; have h4 := h.drop_stopped
  have h5 := h.rapid_runs
  unfold DriveStage.dropDirection
  cases hm : v.mode
  · simp_all [DriveStage.running]
  · simp_all
  · dsimp only; split <;> simp_all

theorem DriveStage.sound_of_stopped {v : DriveStage} (h1 : v.runFwd = false) (h2 : v.rapid = false)
    (h3 : v.mode ≠ .steer → v.runRev = true → v.dirDrop = true) (h4 : v.dirDrop = true → v.dirHold = true) :
    v.Sound ∧ v.running = none := by
  refine ⟨⟨fun _ => h2, fun _ h => by simp_all, fun _ => h1, fun hm => h3 (by rw [hm]; decide), fun _ => h1, h4⟩, ?_⟩
  unfold DriveStage.running
  cases hm : v.mode
  · rfl
  · dsimp only
    cases hd : v.dirDrop
    · cases hr : v.runRev
      · simp [h1]
      · have := h3 (by rw [hm]; decide) hr; simp_all
    · simp
  · simp [h1]

theorem DriveStage.resetPart_sound {v : DriveStage} (h : v.Sound) : v.resetPart.Sound ∧ v.resetPart.running = none :=
  have k := dropDirection_sound h
  sound_of_stopped k.1 k.2.1 (fun _ => k.2.2.1) k.2.2.2.1

theorem DriveStage.disable_sound {v : DriveStage} (h : v.Sound) : v.disable.Sound ∧ v.disable.running = none :=
  have k := dropDirection_sound h
  sound_of_stopped k.1 k.2.1 (fun _ => k.2.2.1) k.2.2.2.1

theorem DriveStage.endHold_sound {v : DriveStage} (h : v.Sound) : v.endHold.Sound := by
  have h1 := h.none_runs; have h2 := h.none_direction; have h3 := h.drop_holds; have h4 := h.drop_stopped
  have h5 := h.rapid_runs; have h6 := h.split_one
  unfold DriveStage.endHold
  constructor <;> cases hm : v.mode <;> cases hd : v.dirDrop <;> simp_all [DriveStage.running]

/-- R137: a commit of stopped lines; a section that was read from a setup block has mode SPLIT or STEER. -/
theorem DriveStage.commit_sound {v : DriveStage} (h : v.Sound) (hr : v.running = none) (c : Section)
    (hc : c.output ≠ .none) (b : Bool) (t : Word) : (v.commit c b t).Sound ∧ (v.commit c b t).running = none := by
  have k := dropDirection_sound h
  have hfwd : v.runFwd = false := by
    have h1 := h.none_runs
    have h2 := h.drop_stopped
    unfold DriveStage.running at hr
    cases hm : v.mode <;> cases hf : v.runFwd <;> cases hd : v.dirDrop <;> simp_all
  have h3 := h.rapid_runs hr
  have h4 := h.drop_holds
  unfold DriveStage.commit
  dsimp only
  cases ho : c.output
  · exact absurd ho hc
  · simp only [if_true]
    split
    · split <;> exact sound_of_stopped k.1 k.2.1 (fun _ => k.2.2.1) k.2.2.2.1
    · exact sound_of_stopped k.1 k.2.1 (fun _ => k.2.2.1) k.2.2.2.1
  · simp only [reduceCtorEq, if_false]
    split
    · split <;> exact sound_of_stopped hfwd h3 (fun hm => absurd rfl hm) h4
    · exact sound_of_stopped hfwd h3 (fun hm => absurd rfl hm) h4

/-! ### The drive stage of the state -/

theorem AxisUnit.Untouched.request {u v : AxisUnit} (h : AxisUnit.Untouched u v) : v.seq.request = u.seq.request := by
  have hm : v.seq.motionDirection = u.seq.motionDirection := by
    unfold Sequencer.motionDirection
    rcases h.heard with e | ⟨x, a, es, e1, e2, e3⟩
    · rw [e]
    · rw [e1, e3]; simp [e2]
  have hs : v.seq.state = u.seq.state := by rw [h.seq]
  unfold Sequencer.request
  rw [hs, hm]

theorem State.LineJustified.congr {s t : State} {n : AxisId} (h : s.LineJustified n)
    (hd : (t.axis n).drive = (s.axis n).drive) (hr : (t.axis n).seq.request = (s.axis n).seq.request)
    (hc : t.cmd.controller = s.cmd.controller) (hx : t.xstopHigh = s.xstopHigh) : t.LineJustified n := by
  intro d h'
  rw [hd] at h' ⊢
  rw [hr, hc, hx]
  exact h d h'

/-- A line that is not active needs no reason. -/
theorem State.lineJustified_of_stopped {s : State} {n : AxisId} (h : (s.axis n).drive.running = none) :
    s.LineJustified n := by
  intro d h'; rw [h] at h'; cases h'

theorem State.evalDrive_axis (s : State) (n : AxisId) :
    (s.evalDrive n).axis n =
      { s.axis n with drive := ((s.axis n).drive.follow (s.runWanted n)).rest (s.standsStill n) s.timeBase } :=
  State.axis_modDrive_same ..

/-- R106: the standstill condition reads the parameters, the last change and the report of the position unit. -/
theorem State.standsStill_congr {s t : State} {n : AxisId} (hp : (t.axis n).pos.params = (s.axis n).pos.params)
    (hs : (t.axis n).pos.standstill = (s.axis n).pos.standstill)
    (hl : (t.axis n).pos.lastChange = (s.axis n).pos.lastChange) (ht : t.timeBase = s.timeBase) :
    t.standsStill n = s.standsStill n := by
  unfold State.standsStill; rw [hp, hs, hl, ht]

theorem State.Calm.standsStill {n : AxisId} {s t : State} (h : State.Calm n s t) : t.standsStill n = s.standsStill n := by
  obtain ⟨_, _, _, _, _, hp⟩ := h.pos
  exact State.standsStill_congr (by rw [hp]) (by rw [hp]) (by rw [hp]) h.timeBase

theorem State.Frame.standsStill {n : AxisId} {s t : State} (h : State.Frame n s t) {m : AxisId} (hm : m ≠ n) :
    t.standsStill m = s.standsStill m := by
  have hp := (h.others m hm).pos
  exact State.standsStill_congr (by rw [hp]) (by rw [hp]) (by rw [hp]) h.timeBase

theorem State.RestTimed.congr {s t : State} {n : AxisId} (h : s.RestTimed n)
    (hd : (t.axis n).drive = (s.axis n).drive) (hs : t.standsStill n = s.standsStill n) : t.RestTimed n := by
  unfold State.RestTimed; rw [hd, hs]; exact h

/-- The lines of axis n are sound, an active one has its reason, and the rest start is timed. -/
def State.AxisSafe (s : State) (n : AxisId) : Prop := (s.axis n).drive.Sound ∧ s.LineJustified n ∧ s.RestTimed n

/-- What the end of an event of axis n needs of its drive stage: sound lines, an active one with its direction as the last
driven one, and no rest start kept back from an axis that stands still. -/
structure State.Ready (s : State) (n : AxisId) : Prop where
  sound : (s.axis n).drive.Sound
  driven : (s.axis n).drive.Driven
  timed : (s.axis n).drive.running = none → (s.axis n).drive.restStart = none → s.standsStill n = false

theorem State.AxisSafe.ready {s : State} {n : AxisId} (h : s.AxisSafe n) : s.Ready n where
  sound := h.1
  driven d hd := (h.2.1 d hd).2.2.2.2.2
  timed hr hs := by
    rcases h.2.2.mp hs with k | k
    · rw [hr] at k; cases k
    · exact k

/-- Operations of axis n that leave its drive stage but for the lockout leave it ready. -/
theorem State.Ready.calm {n : AxisId} {s t : State} (h : s.Ready n) (f : State.Calm n s t) : t.Ready n := by
  obtain ⟨b, hb⟩ := f.drive
  refine ⟨by rw [hb]; exact h.sound.lockout b, ?_, ?_⟩
  · rw [hb]; exact h.driven
  · rw [hb, f.standsStill]; exact h.timed

/-- R125, R130: what the drive stage is to run needs no reversal pause. -/
theorem State.runWanted_unpaused {s : State} {n : AxisId} {d : Direction} {fast : Bool}
    (h : s.runWanted n = some (d, fast)) : (s.axis n).drive.needsPause d = false := by
  unfold State.runWanted at h
  split at h
  · cases h
  · split at h
    · rename_i hc
      simp only [Bool.and_eq_true, Bool.not_eq_true'] at hc
      cases h
      exact hc.2
    · cases h

theorem DriveStage.needsPause_last {v : DriveStage} {d : Direction} (h : v.lastDir = some d) : v.needsPause d = false := by
  unfold DriveStage.needsPause; rw [h]; cases d <;> rfl

theorem State.evalDrive_standsStill (s : State) (n : AxisId) : (s.evalDrive n).standsStill n = s.standsStill n :=
  State.standsStill_congr (by rw [evalDrive_axis]) (by rw [evalDrive_axis]) (by rw [evalDrive_axis]) rfl

theorem State.driveStep_standsStill (s : State) (n : AxisId) : (s.driveStep n).standsStill n = s.standsStill n := by
  have calm := ((s.evalDrive n).calm_takePauseElapsed n).standsStill.trans (s.evalDrive_standsStill n)
  unfold State.driveStep
  dsimp only
  split
  · split
    · exact calm
    · exact (State.evalDrive_standsStill _ n).trans calm
  · exact s.evalDrive_standsStill n

/-- R125, R126, R128 to R130, R132: an evaluation of the drive stage leaves the lines of the axis safe, and is what an event
carries. -/
theorem State.evalDrive_lines (s : State) (n : AxisId) (h : (s.axis n).drive.Sound) (hd : (s.axis n).drive.Driven) :
    (s.evalDrive n).AxisSafe n
      ∧ ∀ elapsed kept,
          DriveStage.Carries elapsed kept s.timeBase (s.axis n).drive ((s.evalDrive n).axis n).drive := by
  obtain ⟨k1, k2, k3⟩ := DriveStage.follow_spec h (s.runWanted n)
  obtain ⟨e1, e2, e3⟩ := DriveStage.eval_spec h hd (s.runWanted n) (fun _ _ => State.runWanted_unpaused)
    (s.standsStill n) s.timeBase
  have hst := s.evalDrive_standsStill n
  refine ⟨⟨?_, ?_, ?_⟩, by rw [evalDrive_axis]; exact e3⟩
  · rw [evalDrive_axis]; exact DriveStage.rest_sound k1 _ _
  · intro d hd
    rw [evalDrive_axis] at hd ⊢
    have hlast := e1 d hd
    rw [DriveStage.rest_running] at hd
    have hw := k3 d hd
    have hk := DriveStage.rest_kept ((s.axis n).drive.follow (s.runWanted n)) (s.standsStill n) s.timeBase
    rw [← hk.1] at hw
    have hwant := hw
    generalize (s.axis n).drive.follow (s.runWanted n) = w at *
    unfold State.runWanted at hwant
    split at hwant
    · cases hwant
    · rename_i d' fast hreq
      split at hwant
      · rename_i hcond
        simp only [Bool.and_eq_true, decide_eq_true_eq, Bool.not_eq_true'] at hcond
        injection hwant with hwant; injection hwant with e1 e2
        subst e1
        refine ⟨?_, hcond.1.1.1, hcond.1.1.2, ?_, DriveStage.needsPause_last hlast, hlast⟩
        · exact hreq.trans (congrArg (fun b => some (d', b)) e2)
        · dsimp only; rw [hk.2.1, k2]; exact hcond.1.2
      · cases hwant
  · unfold State.RestTimed; rw [hst, evalDrive_axis]; exact e2

/-- R130: where nothing is wanted and no line runs, an evaluation sets the rest start alone; on an axis that the end of an
event finds ready it can only end one. -/
theorem State.evalDrive_idle {s : State} {n : AxisId} (h : s.Ready n) (hr : (s.axis n).drive.running = none)
    (hw : s.runWanted n = none) :
    ∃ r, ((s.evalDrive n).axis n).drive = { (s.axis n).drive with restStart := r }
      ∧ (r = (s.axis n).drive.restStart ∨ r = none ∧ s.standsStill n = false) := by
  rw [State.evalDrive_axis, hw]
  have hf : (s.axis n).drive.follow none = (s.axis n).drive := by unfold DriveStage.follow; rw [hr]
  dsimp only
  rw [hf]
  unfold DriveStage.rest
  split
  · rename_i hc
    simp only [hr, Option.isSome_none, Bool.false_or, Bool.not_eq_true'] at hc
    exact ⟨none, rfl, .inr ⟨rfl, hc⟩⟩
  · rename_i hc
    simp only [hr, Option.isSome_none, Bool.false_or, Bool.not_eq_true', Bool.not_eq_false] at hc
    split
    · exact ⟨_, rfl, .inl rfl⟩
    · rename_i hn; rw [h.timed hr hn] at hc; cases hc

/-- What `State.driveStep` can do: the evaluation alone; or a pause elapsed taken after it by an axis whose request was
inactive, with nothing more where a run line was active, and with a second evaluation where none was. -/
theorem State.driveStep_lines (s : State) (n : AxisId) (h : s.Ready n) :
    (s.driveStep n).AxisSafe n
      ∧ ∀ elapsed kept,
          DriveStage.Carries elapsed kept s.timeBase (s.axis n).drive ((s.driveStep n).axis n).drive := by
  have k := s.evalDrive_lines n h.sound h.driven
  unfold State.driveStep
  dsimp only
  split
  · rename_i hp
    have hstate : ((s.evalDrive n).axis n).seq.state = .pausing := by
      unfold AxisUnit.pauseOver at hp
      simp only [Bool.and_eq_true, beq_iff_eq] at hp
      exact hp.1
    have calm := (s.evalDrive n).calm_takePauseElapsed n
    obtain ⟨b, hb⟩ := calm.drive
    have ready := k.1.ready.calm calm
    split
    · refine ⟨⟨ready.sound, lineJustified_of_stopped ?_, ?_⟩, fun elapsed kept => ?_⟩
      · rw [hb, DriveStage.running_lockout]
        cases hr : ((s.evalDrive n).axis n).drive.running with
        | none => rfl
        | some d =>
          have := (k.1.2.1 d hr).1
          simp only [Sequencer.request, hstate] at this
          cases this
      · have := k.1.2.2
        unfold State.RestTimed at this ⊢
        rw [calm.standsStill, hb]; exact this
      · rw [hb]
        have c := k.2 elapsed kept
        exact ⟨c.starts, c.last_kept, c.rest_reading, c.flag_set, c.flag_at_once, c.flag_kept, c.set_kept⟩
    · rename_i hwas
      have hr : (s.axis n).drive.running = none := by
        cases e : (s.axis n).drive.running with
        | none => rfl
        | some d => rw [e] at hwas; exact absurd rfl hwas
      have hw : s.runWanted n = none := by
        have e : (s.axis n).seq.state = .pausing := by rw [← hstate, State.evalDrive_axis]
        unfold State.runWanted Sequencer.request; rw [e]
      have last := State.evalDrive_lines ((s.evalDrive n).takePauseElapsed n) n ready.sound ready.driven
      refine ⟨last.1, fun elapsed kept => ?_⟩
      have c := last.2 elapsed kept
      rw [calm.timeBase, show (s.evalDrive n).timeBase = s.timeBase from rfl, hb] at c
      obtain ⟨r, he, hrest⟩ := State.evalDrive_idle h hr hw
      rw [he] at c
      rcases hrest with e | ⟨e, hst⟩
      · subst e
        exact c.of_same rfl rfl rfl rfl rfl rfl
      · have hnone : ((((s.evalDrive n).takePauseElapsed n).evalDrive n).axis n).drive.restStart = none := by
          refine last.1.2.2.mpr (.inr ?_)
          rw [State.evalDrive_standsStill, calm.standsStill, State.evalDrive_standsStill]; exact hst
        refine ⟨c.starts, c.last_kept, fun r' h' => ?_, c.flag_set, fun _ h' => ?_, c.flag_kept, c.set_kept⟩
        · rw [hnone] at h'; cases h'
        · rw [hnone] at h'; cases h'
  · exact k

theorem State.takeHead_request (s : State) (n : AxisId) :
    ((s.takeHead n).axis n).seq.request = (s.axis n).seq.request ∧ ((s.takeHead n).axis n).drive = (s.axis n).drive := by
  unfold State.takeHead; dsimp only; split
  · exact ⟨rfl, rfl⟩
  · split
    · rename_i hc
      simp only [Bool.and_eq_true, decide_eq_true_eq] at hc
      rw [State.axis_setAxis_same]
      exact ⟨by simp [Sequencer.request, hc.1.1.1], rfl⟩
    · exact ⟨rfl, rfl⟩

@[simp] theorem State.axis_request (s : State) (n m : AxisId) (k : RouteAccess) (a : Word) (d : List (Nat × Word)) :
    (s.request n k a d).axis m = s.axis m := rfl

theorem State.startFetch_request (s : State) (n : AxisId) :
    ((s.startFetch n).axis n).seq = (s.axis n).seq ∧ ((s.startFetch n).axis n).drive = (s.axis n).drive := by
  unfold State.startFetch; split
  · exact ⟨rfl, rfl⟩
  · exact ⟨by simp, by simp⟩

/-- The route unit's work changes no request and no line. -/
theorem State.routeAdvance_request (s : State) (n : AxisId) :
    ((s.routeAdvance n).axis n).seq.request = (s.axis n).seq.request
      ∧ ((s.routeAdvance n).axis n).drive = (s.axis n).drive := by
  have h := s.takeHead_request n
  unfold State.routeAdvance
  dsimp only
  generalize s.takeHead n = t at h ⊢
  have hf := t.startFetch_request n
  have hf' : ((t.startFetch n).axis n).seq.request = (s.axis n).seq.request
      ∧ ((t.startFetch n).axis n).drive = (s.axis n).drive := by rw [hf.1, hf.2]; exact h
  repeat' split
  all_goals first | exact h | exact hf'

theorem State.tellSettled_axis (s : State) (n m : AxisId) : (s.tellSettled n).axis m = s.axis m := by
  unfold State.tellSettled; split
  · rfl
  · dsimp only; split <;> rfl

theorem State.tellSettled_timeBase (s : State) (n : AxisId) : (s.tellSettled n).timeBase = s.timeBase :=
  (State.frame_tellSettled s n).timeBase

theorem State.conclude_standsStill (s : State) (n : AxisId) : (s.conclude n).standsStill n = s.standsStill n := by
  have e : (s.conclude n).axis n = ((s.driveStep n).routeAdvance n).axis n := State.tellSettled_axis _ n n
  rw [← s.driveStep_standsStill n, ← ((s.driveStep n).calm_routeAdvance n).standsStill]
  exact State.standsStill_congr (by rw [e]) (by rw [e]) (by rw [e]) (State.tellSettled_timeBase _ n)

/-- The end of an event of axis n leaves the axis's lines safe, and is what an event carries. -/
theorem State.conclude_lines (s : State) (n : AxisId) (h : s.Ready n) :
    (s.conclude n).AxisSafe n
      ∧ ∀ elapsed kept,
          DriveStage.Carries elapsed kept s.timeBase (s.axis n).drive ((s.conclude n).axis n).drive := by
  have k := s.driveStep_lines n h
  have r := (s.driveStep n).routeAdvance_request n
  have c := (s.driveStep n).calm_routeAdvance n
  have f := c.toFrame.trans (State.frame_tellSettled _ n)
  unfold State.conclude
  have e : (((s.driveStep n).routeAdvance n).tellSettled n).axis n = ((s.driveStep n).routeAdvance n).axis n :=
    State.tellSettled_axis _ n n
  have hst := (s.conclude_standsStill n).trans (s.driveStep_standsStill n).symm
  refine ⟨⟨?_, k.1.2.1.congr ?_ ?_ f.controller f.xstopHigh, k.1.2.2.congr ?_ hst⟩, ?_⟩
  · rw [e, r.2]; exact k.1.1
  · rw [e, r.2]
  · rw [e, r.1]
  · rw [e, r.2]
  · rw [e, r.2]; exact k.2

/-- Another axis keeps its lines and their reason. -/
theorem State.Frame.lines {n : AxisId} {s t : State} (f : State.Frame n s t) {m : AxisId} (hm : m ≠ n)
    (h : s.AxisSafe m) : t.AxisSafe m := by
  have u := f.others m hm
  exact ⟨by rw [u.drive]; exact h.1, h.2.1.congr u.drive u.request f.controller f.xstopHigh,
    h.2.2.congr u.drive (f.standsStill hm)⟩

/-- Operations of axis n that leave its drive stage ready, with what an event carries of it, and the end of the event, keep
the lines of every axis safe. -/
theorem State.Frame.lines_conclude {n : AxisId} {s t : State} (f : State.Frame n s t) (h : s.LinesSafe)
    (hr : t.Ready n) {elapsed : AxisId → Prop} {kept : Prop}
    (hc : DriveStage.Carries (elapsed n) kept t.timeBase (t.axis n).drive ((t.conclude n).axis n).drive →
      DriveStage.Carries (elapsed n) kept t.timeBase (s.axis n).drive ((t.conclude n).axis n).drive) :
    (t.conclude n).LinesSafe
      ∧ ∀ m, DriveStage.Carries (elapsed m) kept (t.conclude n).timeBase (s.axis m).drive ((t.conclude n).axis m).drive := by
  have ft := State.frame_conclude t n
  have k := t.conclude_lines n hr
  refine ⟨fun m => ?_, fun m => ?_⟩
  · by_cases hm : m = n
    · subst hm; exact k.1
    · exact (f.trans ft).lines hm (h m)
  · by_cases hm : m = n
    · subst hm; rw [ft.timeBase]; exact hc (k.2 _ _)
    · rw [((f.trans ft).others m hm).drive]; exact .refl ..

/-- Operations of axis n that leave its drive stage but for the lockout, and the end of the event. -/
theorem State.Calm.lines_conclude {n : AxisId} {s t : State} (f : State.Calm n s t) (h : s.LinesSafe)
    {elapsed : AxisId → Prop} {kept : Prop} :
    (t.conclude n).LinesSafe
      ∧ ∀ m, DriveStage.Carries (elapsed m) kept (t.conclude n).timeBase (s.axis m).drive ((t.conclude n).axis m).drive := by
  refine f.toFrame.lines_conclude h ((State.AxisSafe.ready (h n)).calm f) fun c => ?_
  obtain ⟨b, hb⟩ := f.drive
  rw [hb] at c
  exact c.of_same rfl rfl rfl rfl rfl rfl

/-! ### The passing of a millisecond -/

theorem State.takeRest_axis (s : State) (n : AxisId) :
    (s.takeRest n).axis n = { s.axis n with drive := (s.axis n).drive.rest (s.standsStill n) s.timeBase } :=
  State.axis_modDrive_same ..

theorem State.takeRest_standsStill (s : State) (n : AxisId) : (s.takeRest n).standsStill n = s.standsStill n :=
  State.standsStill_congr (by rw [takeRest_axis]) (by rw [takeRest_axis]) (by rw [takeRest_axis]) rfl

theorem State.frame_takeRest (s : State) (n : AxisId) : Frame n s (s.takeRest n) := s.frame_modDrive n _

theorem State.frame_tickAxis (s : State) (n : AxisId) : Frame n s (s.tickAxis n) := by
  unfold State.tickAxis
  dsimp only
  split
  · exact (s.frame_takeRest n).trans (State.frame_conclude _ n)
  · exact (s.frame_takeRest n).trans (State.frame_evalDrive _ n)

theorem State.takeRest_ready {s : State} {n : AxisId} (h : (s.axis n).drive.Sound) (hd : (s.axis n).drive.Driven) :
    (s.takeRest n).Ready n := by
  have hr := (s.axis n).drive.rest_running (s.standsStill n) s.timeBase
  refine ⟨?_, ?_, ?_⟩
  · rw [takeRest_axis]; exact DriveStage.rest_sound h _ _
  · rw [takeRest_axis]
    intro d k
    dsimp only at k ⊢
    rw [hr] at k
    rw [((s.axis n).drive.rest_kept _ _).2.2.2.1]
    exact hd d k
  · rw [takeRest_standsStill, takeRest_axis]
    intro k1 k2
    dsimp only at k1 k2
    rw [hr] at k1
    rcases (s.axis n).drive.rest_cases (s.standsStill n) s.timeBase with ⟨k | k, _⟩ | ⟨_, _, ⟨⟨r, e⟩, e'⟩ | ⟨_, e, _⟩⟩
    · rw [k1] at k; cases k
    · exact k
    · rw [e', e] at k2; cases k2
    · rw [e] at k2; cases k2

/-- R129, R130: a millisecond that has passed leaves the lines of axis n safe, and is what an event carries, where the
standstill that it brings ends a pause of 0 ms. -/
theorem State.tickAxis_lines (s : State) (n : AxisId) (h : (s.axis n).drive.Sound) (hd : (s.axis n).drive.Driven)
    (hs : (s.axis n).drive.running.isSome = true → (s.axis n).drive.restStart = none) :
    (s.tickAxis n).AxisSafe n ∧ (s.tickAxis n).standsStill n = s.standsStill n
      ∧ ∀ elapsed kept : Prop,
          ((s.axis n).drive.pause = 0 → (s.axis n).drive.running = none → (s.axis n).drive.restStart = none →
            s.standsStill n = true → elapsed) →
          DriveStage.Carries elapsed kept s.timeBase (s.axis n).drive ((s.tickAxis n).axis n).drive := by
  have ready := State.takeRest_ready h hd
  have go : ∀ t : State, t.AxisSafe n → t.standsStill n = s.standsStill n →
      (∀ elapsed kept, DriveStage.Carries elapsed kept s.timeBase ((s.takeRest n).axis n).drive (t.axis n).drive) →
      t.AxisSafe n ∧ t.standsStill n = s.standsStill n
        ∧ ∀ elapsed kept : Prop,
            ((s.axis n).drive.pause = 0 → (s.axis n).drive.running = none → (s.axis n).drive.restStart = none →
              s.standsStill n = true → elapsed) →
            DriveStage.Carries elapsed kept s.timeBase (s.axis n).drive (t.axis n).drive := by
    intro t k1 k2 k3
    refine ⟨k1, k2, fun elapsed kept he => ?_⟩
    have hw := k1.2.2
    unfold State.RestTimed at hw
    rw [k2] at hw
    exact DriveStage.Carries.after_rest (standing := s.standsStill n)
      (fun kept => by have := k3 elapsed kept; rw [takeRest_axis] at this; exact this) hs hw he
  unfold State.tickAxis
  dsimp only
  split
  · have k := State.conclude_lines _ n ready
    exact go _ k.1 ((State.conclude_standsStill _ n).trans (s.takeRest_standsStill n)) k.2
  · have k := State.evalDrive_lines _ n ready.sound ready.driven
    exact go _ k.1 ((State.evalDrive_standsStill _ n).trans (s.takeRest_standsStill n)) k.2

end Sys2Proof.Machine
end

