-- ==== Sys2Proof/Laws/Conclude.lean ====
section
/-! SUPPORT. What the end of an event (`State.conclude`) leaves of the axis whose event it was, for an axis that is not
PAUSING and takes no record: everything but its lines, the fetch it starts, its request at the port, and what it tells a
pending halt. -/

namespace Sys2Proof.Machine

theorem State.evalDrive_cmd (s : State) (n : AxisId) : (s.evalDrive n).cmd = s.cmd := rfl

/-- R130: an axis that is not PAUSING takes no pause elapsed. -/
theorem AxisUnit.pauseOver_of_ne {u : AxisUnit} (h : u.seq.state ≠ .pausing) : u.pauseOver = false := by
  unfold AxisUnit.pauseOver
  simp [h]

theorem State.driveStep_quiet (s : State) (n : AxisId) (h : (s.axis n).seq.state ≠ .pausing) :
    s.driveStep n = s.evalDrive n := by
  unfold State.driveStep
  dsimp only
  rw [AxisUnit.pauseOver_of_ne]
  · simp
  · rw [State.evalDrive_axis]; exact h

/-- An axis takes no record at the end of an event: it is not IDLE, or has nothing to take, or may not take it
(R15, R110). -/
def State.NoTake (s : State) (n : AxisId) : Prop :=
  (s.axis n).seq.state ≠ .idle ∨ (s.axis n).route.staging = [] ∨ (s.axis n).seq.executing.isSome = true
    ∨ (s.axis n).route.closure.isSome = true ∨ s.cmd.controller ≠ .running ∨ (s.axis n).seq.handed ≠ []

theorem State.takeHead_none (s : State) (n : AxisId) (h : s.NoTake n) : s.takeHead n = s := by
  unfold State.takeHead
  dsimp only
  split
  · rfl
  · rename_i g rest hg
    rw [if_neg]
    intro hc
    simp only [Bool.and_eq_true, decide_eq_true_eq, Option.isNone_iff_eq_none, List.isEmpty_iff] at hc
    rcases h with h | h | h | h | h | h
    · exact h hc.1.1.1.1
    · rw [h] at hg; cases hg
    · rw [hc.1.1.1.2] at h; cases h
    · rw [hc.1.2] at h; cases h
    · exact h hc.1.1.2
    · exact h hc.2

theorem State.setAxis_self (s : State) (n : AxisId) : s.setAxis n (s.axis n) = s := by
  have h : s.axes.set n (s.axis n) = s.axes := by
    apply PerAxis.ext_get
    intro m
    by_cases hm : m = n
    · subst hm; rw [PerAxis.get_set_same]; rfl
    · rw [PerAxis.get_set_ne _ hm]
  unfold State.setAxis
  rw [h]

/-- What the end of an event of axis n leaves, where the axis is not PAUSING and takes no record: its lines, the target and
the notice latch of a fetch it starts, its request at the port and the halt's reports may change, nothing else. -/
structure State.Quiet (n : AxisId) (s t : State) : Prop where
  seq : (t.axis n).seq = (s.axis n).seq
  pos : (t.axis n).pos = (s.axis n).pos
  page : (t.axis n).page = (s.axis n).page
  route : ∃ tg l, (t.axis n).route = { (s.axis n).route with target := tg, noticeLatch := l }
  others : ∀ m, m ≠ n → t.axis m = s.axis m
  rest : ∃ w h, t = { s with axes := t.axes, port.waiting := w, cmd.halt := h }
    ∧ (∀ m, m ≠ n → w.get m = s.port.waiting.get m) ∧ (s.cmd.halt = none → h = none)

theorem State.Quiet.refl (n : AxisId) (s : State) : State.Quiet n s s :=
  ⟨rfl, rfl, rfl, ⟨_, _, rfl⟩, fun _ _ => rfl, ⟨_, _, rfl, fun _ _ => rfl, id⟩⟩

theorem State.Quiet.trans {n : AxisId} {s t r : State} (h : State.Quiet n s t) (k : State.Quiet n t r) :
    State.Quiet n s r := by
  obtain ⟨tg, l, h4⟩ := h.route
  obtain ⟨tg', l', k4⟩ := k.route
  obtain ⟨w, x, h6, h7, h8⟩ := h.rest
  obtain ⟨w', x', k6, k7, k8⟩ := k.rest
  refine ⟨k.seq.trans h.seq, k.pos.trans h.pos, k.page.trans h.page, ⟨tg', l', ?_⟩,
    fun m hm => (k.others m hm).trans (h.others m hm), ⟨w', x', ?_, ?_, ?_⟩⟩
  · rw [k4, h4]
  · rw [k6, h6]
  · intro m hm; rw [k7 m hm, h6]; exact h7 m hm
  · intro hn; apply k8; rw [h6]; exact h8 hn

theorem State.quiet_evalDrive (s : State) (n : AxisId) : State.Quiet n s (s.evalDrive n) := by
  refine ⟨?_, ?_, ?_, ⟨(s.axis n).route.target, (s.axis n).route.noticeLatch, ?_⟩, ?_, ⟨_, _, rfl, fun _ _ => rfl, id⟩⟩
  all_goals first
    | (rw [State.evalDrive_axis])
    | exact fun m hm => State.axis_modDrive_ne s hm _

theorem State.quiet_request (s : State) (n : AxisId) (k : RouteAccess) (a : Word) (d : List (Nat × Word)) :
    State.Quiet n s (s.request n k a d) :=
  ⟨rfl, rfl, rfl, ⟨_, _, rfl⟩, fun _ _ => rfl, ⟨_, _, rfl, fun _ hm => PerAxis.get_set_ne _ hm _, id⟩⟩

theorem State.quiet_fetchTarget (s : State) (n : AxisId) (tg : Option FetchTarget) (l : Bool) :
    State.Quiet n s (s.modRoute n fun r => { r with target := tg, noticeLatch := l }) := by
  refine ⟨?_, ?_, ?_, ⟨tg, l, ?_⟩, ?_, ⟨_, _, rfl, fun _ _ => rfl, id⟩⟩
  all_goals first
    | (rw [State.axis_modRoute_same])
    | exact fun m hm => State.axis_modRoute_ne s hm _

theorem State.quiet_startFetch (s : State) (n : AxisId) : State.Quiet n s (s.startFetch n) := by
  unfold State.startFetch
  split
  · exact .refl ..
  · exact (s.quiet_fetchTarget n _ _).trans (State.quiet_request _ n ..)

theorem State.quiet_tellSettled (s : State) (n : AxisId) : State.Quiet n s (s.tellSettled n) := by
  unfold State.tellSettled
  split
  · exact .refl ..
  · rename_i h hh
    dsimp only
    split
    · exact .refl ..
    · exact ⟨rfl, rfl, rfl, ⟨_, _, rfl⟩, fun _ _ => rfl,
        ⟨_, _, rfl, fun _ _ => rfl, fun hn => by rw [hh] at hn; cases hn⟩⟩

theorem State.quiet_routeAdvance (s : State) (n : AxisId) (h : s.NoTake n) : State.Quiet n s (s.routeAdvance n) := by
  unfold State.routeAdvance
  dsimp only
  rw [s.takeHead_none n h]
  repeat' split
  all_goals first
    | exact .refl ..
    | exact s.quiet_request n ..
    | exact s.quiet_startFetch n

/-- The end of an event of an axis that is not PAUSING and takes no record. -/
theorem State.conclude_quiet (s : State) (n : AxisId) (h : (s.axis n).seq.state ≠ .pausing) (hn : s.NoTake n) :
    State.Quiet n s (s.conclude n) := by
  unfold State.conclude
  rw [s.driveStep_quiet n h]
  have q := s.quiet_evalDrive n
  have hn' : (s.evalDrive n).NoTake n := by
    unfold State.NoTake
    rw [State.evalDrive_axis]
    exact hn
  exact (q.trans (State.quiet_routeAdvance _ n hn')).trans (State.quiet_tellSettled _ n)

/-- R7: no fetch starts while the axis is HELD, STOPPING or DORMANT, or the controller is not RUNNING; the route unit then
keeps everything. -/
theorem State.conclude_keeps_route (s : State) (n : AxisId) (h : (s.axis n).seq.state ≠ .pausing)
    (hn : s.NoTake n) (hf : s.fetchReady n = false ∨ (s.axis n).route.dry = true) :
    ((s.conclude n).axis n).route = (s.axis n).route := by
  unfold State.conclude
  rw [s.driveStep_quiet n h, State.tellSettled_axis]
  have hn' : (s.evalDrive n).NoTake n := by
    unfold State.NoTake
    rw [State.evalDrive_axis]
    exact hn
  have hr : ((s.evalDrive n).axis n).route = (s.axis n).route := by rw [State.evalDrive_axis]
  have hf' : (s.evalDrive n).fetchReady n = s.fetchReady n := by
    unfold State.fetchReady State.routeFree
    rw [State.evalDrive_axis]
    rfl
  have hx : ((s.evalDrive n).fetchReady n && !((s.evalDrive n).axis n).route.dry) = false := by
    rw [hf', hr]
    rcases hf with e | e <;> simp [e]
  unfold State.routeAdvance
  dsimp only
  rw [State.takeHead_none _ n hn']
  repeat' split
  all_goals first
    | exact hr
    | simp_all

/-- R7: the end of an event in which the fetch conditions hold starts a fetch of slot C + k for stamp E + k. -/
theorem State.conclude_fetches (s : State) (n : AxisId) (c : Section) (h : (s.axis n).seq.state ≠ .pausing)
    (hn : s.NoTake n) (hc : s.sectionOf n = some c) (hf : s.fetchReady n = true) (hd : (s.axis n).route.dry = false)
    (hw : (s.axis n).route.closure = none) (hv : (s.axis n).seq.verifying = false)
    (hl : (s.axis n).seq.delivery = none) :
    ((s.conclude n).axis n).route =
        { (s.axis n).route with
          target := some ⟨((s.axis n).route.cursor + (s.axis n).ahead) % c.length,
            (s.axis n).route.expected + BitVec.ofNat 16 (s.axis n).ahead⟩
          noticeLatch := false }
      ∧ (s.conclude n).port.waiting.get n =
          some ⟨.fetch, c.slotAddr (((s.axis n).route.cursor + (s.axis n).ahead) % c.length), []⟩ := by
  have hn' : (s.evalDrive n).NoTake n := by
    unfold State.NoTake
    rw [State.evalDrive_axis]
    exact hn
  have ha : (s.evalDrive n).axis n = { s.axis n with drive := ((s.evalDrive n).axis n).drive } := by
    rw [State.evalDrive_axis]
  have hf' : (s.evalDrive n).fetchReady n = s.fetchReady n := by
    unfold State.fetchReady State.routeFree
    rw [State.evalDrive_axis]
    rfl
  have hfree : (s.evalDrive n).routeFree n = true := by
    have := hf'.trans hf
    unfold State.fetchReady at this
    simp only [Bool.and_eq_true] at this
    exact this.2
  have hc' : (s.evalDrive n).sectionOf n = some c := hc
  have e : (s.evalDrive n).routeAdvance n = (s.evalDrive n).startFetch n := by
    unfold State.routeAdvance
    dsimp only
    rw [State.takeHead_none _ n hn', if_pos hfree, hc']
    dsimp only
    rw [ha]
    dsimp only
    rw [hw]
    dsimp only
    rw [hl]
    dsimp only
    unfold Sequencer.verifying at hv
    split
    · rename_i x hx
      rw [hx] at hv
      have : x.work ≠ .verifying := by intro k; simp [k] at hv
      simp [this, hf', hf, hd]
    · simp [hf', hf, hd]
  have hp : (s.conclude n).port = ((s.evalDrive n).startFetch n).port := by
    unfold State.conclude
    rw [s.driveStep_quiet n h, e]
    unfold State.tellSettled
    split
    · rfl
    · dsimp only; split <;> rfl
  rw [hp]
  unfold State.conclude
  rw [s.driveStep_quiet n h, State.tellSettled_axis, e]
  unfold State.startFetch
  rw [hc']
  dsimp only
  rw [ha]
  constructor
  · rw [State.axis_request, State.axis_modRoute_same, ha]
    rfl
  · exact PerAxis.get_set_same ..

end Sys2Proof.Machine
end

