-- ==== Sys2Proof/Laws/Own.lean ====
section
/-! SUPPORT. What each shared operation makes of the blocks of its own axis, as a closed form of the blocks before. -/

namespace Sys2Proof.Machine

/-! ### Operations that leave every axis alone -/

@[simp] theorem State.axis_completeAbort (s : State) (n m : AxisId) : (s.completeAbort n).axis m = s.axis m := by
  unfold State.completeAbort; split <;> rfl

@[simp] theorem State.axis_finishAccess (s : State) (f : Failure) (m : AxisId) :
    (s.finishAccess f).axis m = s.axis m := rfl

/-! ### Flags -/

theorem State.pageDue_own (s : State) (n : AxisId) :
    (s.pageDue n).axis n =
      { s.axis n with page.due := (s.axis n).page.due || (s.axis n).seq.state != .dormant } := by
  unfold State.pageDue
  split
  · rename_i h; simp [h]
  · rename_i h; simp [h]

theorem State.setReferenced_own (s : State) (n : AxisId) (b : Bool) :
    (s.setReferenced n b).axis n =
      { s.axis n with
        pos.referenced := b
        page.due := (s.axis n).page.due
          || ((s.axis n).pos.referenced != b && (s.axis n).seq.state != .dormant) } := by
  unfold State.setReferenced
  split
  · rename_i h; subst h; simp
  · rename_i h
    have e : ((s.axis n).pos.referenced != b) = true := by simpa using h
    rw [State.pageDue_own, State.axis_modPos_same, e]
    simp

/-! ### Axis states -/

/-- The blocks of an axis that goes into a state other than the one it is in. -/
def AxisUnit.into (u : AxisUnit) (st : AxisState) (now : Word) (high : Bool) : AxisUnit :=
  { u with
    seq.state := st
    pos.stallStart := if st.driving then (if u.seq.state.driving then u.pos.stallStart else some now) else none
    drive.lockout := if u.seq.state.driving && !st.driving && high then false else u.drive.lockout
    page.due := u.page.due || st != .dormant }

theorem State.setAxisState_own (s : State) (n : AxisId) (st : AxisState) :
    (s.setAxisState n st).axis n =
      if (s.axis n).seq.state = st then s.axis n else (s.axis n).into st s.timeBase s.xstopHigh := by
  unfold State.setAxisState
  dsimp only
  split
  · rfl
  · rw [State.pageDue_own, State.axis_setAxis_same]
    rfl

theorem State.setAxisState_into (s : State) (n : AxisId) (st : AxisState) (h : (s.axis n).seq.state ≠ st) :
    (s.setAxisState n st).axis n = (s.axis n).into st s.timeBase s.xstopHigh := by
  rw [State.setAxisState_own, if_neg h]

/-! ### Discarding staging and entering HELD -/

/-- R24: the blocks of an axis whose staging has been discarded. -/
def AxisUnit.discarded (u : AxisUnit) : AxisUnit :=
  { u with
    route.staging := [], route.target := none, route.dry := false, route.noticeLatch := false
    route.patrolStart := none
    seq.executing := if u.seq.verifying then none else u.seq.executing }

theorem State.discardStaging_own (s : State) (n : AxisId) :
    (s.discardStaging n).axis n = (s.axis n).discarded := by
  unfold State.discardStaging
  dsimp only
  rw [State.axis_modRoute_same]
  split
  · rename_i h
    rw [State.axis_modSeq_same, State.axis_modRoute_same]
    simp only [AxisUnit.discarded]
    rw [if_pos h]
  · rename_i h
    rw [State.axis_modRoute_same]
    simp only [AxisUnit.discarded]
    rw [if_neg h]

@[simp] theorem State.discardStaging_timeBase (s : State) (n : AxisId) : (s.discardStaging n).timeBase = s.timeBase :=
  (s.calm_discardStaging n).timeBase

@[simp] theorem State.discardStaging_xstopHigh (s : State) (n : AxisId) :
    (s.discardStaging n).xstopHigh = s.xstopHigh := (s.calm_discardStaging n).xstopHigh

theorem State.enterHeld_own (s : State) (n : AxisId) (k : FaultKind) :
    (s.enterHeld n k).axis n =
      { (if (s.axis n).seq.state = .held then (s.axis n).discarded
          else (s.axis n).discarded.into .held s.timeBase s.xstopHigh) with
        seq.heldCause := some k } := by
  unfold State.enterHeld
  dsimp only
  rw [State.axis_completeAbort]
  rw [State.raise_axis, State.axis_modSeq_same, State.setAxisState_own, State.discardStaging_own]
  have : (s.axis n).discarded.seq.state = (s.axis n).seq.state := rfl
  rw [this, State.discardStaging_timeBase, State.discardStaging_xstopHigh]

theorem State.joinLater_own (s : State) (n : AxisId) (k : FaultKind) :
    (s.joinLater n k).axis n = { s.axis n with seq.later := (s.axis n).seq.later ||| k.bit } := by
  unfold State.joinLater
  rw [State.raise_axis, State.axis_modSeq_same]

/-! ### Closing a record -/

theorem Sequencer.hear_none {q : Sequencer} (h : q.executing = none) (n : AxisId) (e : Stamp) : q.hear n e = q := by
  unfold Sequencer.hear; rw [h]

/-- An announcement leaves a sequencer that executes nothing, and every block but sequencers. -/
theorem State.eachAxis_hear (s : State) (n m : AxisId) (e : Stamp) :
    (s.eachAxis fun s m => s.modSeq m fun q => q.hear n e).axis m =
      { s.axis m with seq := (s.axis m).seq.hear n e } := by
  unfold State.eachAxis
  cases m <;> simp [State.modSeq, State.axis, State.setAxis, PerAxis.get, PerAxis.set]

theorem State.advanceStamp_axis (s : State) (n m : AxisId) :
    (s.advanceStamp n).axis m =
      { (if m = n then
          { s.axis n with
            route.cursor := ((s.axis n).route.cursor + 1) % s.routeLength n
            route.expected := (s.axis n).route.expected + 1 }
        else s.axis m) with
        seq := (s.axis m).seq.hear n (s.axis n).route.expected } := by
  unfold State.advanceStamp
  dsimp only
  rw [State.eachAxis_hear]
  by_cases h : m = n
  · subst h
    rw [if_pos rfl, State.axis_modRoute_same]
  · rw [if_neg h, State.axis_modRoute_ne _ h]

/-- R19, R34, R35: the closure entry of an executing record. -/
def AxisUnit.entryOf (u : AxisUnit) (x : Executing) (o : Outcome) (at' : Word) : ClosureEntry :=
  { slot := x.slot, record := x.record, outcome := o, legByte := legByte x.corrections x.legs
    finalPos := u.pos.reported, elapsed := at' - x.startTime }

/-- The blocks of an axis after the closure decision of its executing record, for a route of `len` slots. -/
def AxisUnit.closed (u : AxisUnit) (len : Nat) (x : Executing) (o : Outcome) (at' : Word) : AxisUnit :=
  { u with
    seq.executing := none, seq.stoppingOutcome := none, seq.moveExpiry := none
    route.closure := some ⟨u.entryOf x o at', .reread⟩
    route.cursor := (u.route.cursor + 1) % len
    route.expected := u.route.expected + 1 }

theorem State.closeRecordAt_own (s : State) (n : AxisId) (o : Outcome) (at' : Word) (x : Executing)
    (hx : (s.axis n).seq.executing = some x) :
    (s.closeRecordAt n o at').axis n = (s.axis n).closed (s.routeLength n) x o at' := by
  unfold State.closeRecordAt
  rw [hx]
  dsimp only
  rw [State.advanceStamp_axis, if_pos rfl]
  simp only [State.axis_modRoute_same, State.axis_modSeq_same]
  rw [Sequencer.hear_none rfl]
  rfl

theorem State.closeRecordAt_none (s : State) (n : AxisId) (o : Outcome) (at' : Word)
    (hx : (s.axis n).seq.executing = none) : s.closeRecordAt n o at' = s := by
  unfold State.closeRecordAt
  rw [hx]

theorem State.closeRecordAt_other (s : State) (n m : AxisId) (o : Outcome) (at' : Word) (x : Executing)
    (hx : (s.axis n).seq.executing = some x) (hm : m ≠ n) :
    (s.closeRecordAt n o at').axis m =
      { s.axis m with seq := (s.axis m).seq.hear n (s.axis n).route.expected } := by
  unfold State.closeRecordAt
  rw [hx]
  dsimp only
  rw [State.advanceStamp_axis, if_neg hm]
  simp only [State.axis_modRoute_same, State.axis_modSeq_same, State.axis_modRoute_ne _ hm, State.axis_modSeq_ne _ hm]

/-- The closure decision changes nothing outside the axes. -/
theorem State.closeRecordAt_rest (s : State) (n : AxisId) (o : Outcome) (at' : Word) :
    s.closeRecordAt n o at' = { s with axes := (s.closeRecordAt n o at').axes } := by
  unfold State.closeRecordAt
  split
  · rfl
  · unfold State.advanceStamp State.eachAxis State.modRoute State.modSeq State.setAxis
    rfl

theorem State.hand_own (s : State) (n : AxisId) (k : FaultKind) (o : Outcome) :
    (s.hand n k o).axis n = { s.axis n with seq.handed := (s.axis n).seq.handed ++ [⟨k, o⟩] } :=
  State.axis_modSeq_same ..

/-- R110: an axis that enters IDLE is handed a repeated notice where its encoder condition is LOST. -/
theorem State.enterIdle_own (s : State) (n : AxisId) :
    (s.enterIdle n).axis n =
      if (s.axis n).seq.state = .idle then s.axis n
      else
        { (s.axis n).into .idle s.timeBase s.xstopHigh with
          seq.handed :=
            if (s.axis n).pos.repeatsLoss then (s.axis n).seq.handed ++ [⟨.encoderLost, .encoderLost⟩]
            else (s.axis n).seq.handed } := by
  unfold State.enterIdle
  split
  · rfl
  · rename_i h
    have e := State.setAxisState_into s n .idle h
    have k : ((s.setAxisState n .idle).axis n).pos.repeatsLoss = (s.axis n).pos.repeatsLoss := by rw [e]; rfl
    unfold State.repeatLoss
    rw [k]
    split
    · rw [State.hand_own, e]; rfl
    · rw [e]; rfl

/-! ### While RESET_N is low -/

theorem State.unlessReset_high {s : State} (h : s.resetLow = false) (f : State → State) : s.unlessReset f = f s := by
  simp [State.unlessReset, h]

theorem State.unlessReset_low {s : State} (h : s.resetLow = true) (f : State → State) : s.unlessReset f = s := by
  simp [State.unlessReset, h]

/-! ### Notices of the position unit that wait -/

theorem State.takeNotice_of_none {s : State} {n : AxisId} (h : (s.axis n).seq.handed = []) (k : FaultKind) (o : Outcome) :
    s.takeNotice n k o = s.takeCause n k o := if_pos h

theorem State.takeNotice_of_some {s : State} {n : AxisId} (h : (s.axis n).seq.handed ≠ []) (k : FaultKind) (o : Outcome) :
    s.takeNotice n k o = s.hand n k o := if_neg h

/-- R68: causes that a HELD axis takes join its later-fault set, and leave its blocks otherwise. -/
theorem State.heldTakes_own (n : AxisId) (l : List UnitNotice) (s : State) (h : (s.axis n).seq.state = .held) :
    (l.foldl (fun s g => s.takeCause n g.kind g.outcome) s).axis n =
      { s.axis n with seq.later := l.foldl (fun set g => set ||| g.kind.bit) (s.axis n).seq.later } := by
  induction l generalizing s with
  | nil => rfl
  | cons g l ih =>
    have e : (s.takeCause n g.kind g.outcome).axis n =
        { s.axis n with seq.later := (s.axis n).seq.later ||| g.kind.bit } := by
      rw [show s.takeCause n g.kind g.outcome = s.joinLater n g.kind by unfold State.takeCause; simp only [h]]
      exact State.joinLater_own ..
    simp only [List.foldl_cons]
    rw [ih _ (by rw [e]; exact h), e]

/-- R68, R105: the blocks of a HELD axis that has taken the notices that waited for it. -/
theorem State.takeHanded_held {s : State} {n : AxisId} (h : (s.axis n).seq.state = .held) :
    (s.takeHanded n).axis n =
      { s.axis n with
        seq.handed := []
        seq.later := (s.axis n).seq.handed.foldl (fun set g => set ||| g.kind.bit) (s.axis n).seq.later } := by
  unfold State.takeHanded
  rw [State.heldTakes_own n _ _ (by rw [State.axis_modSeq_same]; exact h), State.axis_modSeq_same]

/-- R67, R105, R110: the blocks of an IDLE axis that has taken the notices that waited for it. -/
theorem State.takeHanded_idle {s : State} {n : AxisId} {g : UnitNotice} {rest : List UnitNotice}
    (h : (s.axis n).seq.state = .idle) (w : (s.axis n).seq.handed = g :: rest) :
    (s.takeHanded n).axis n =
      { (s.axis n).discarded.into .held s.timeBase s.xstopHigh with
        seq.handed := [], seq.heldCause := some g.kind
        seq.later := rest.foldl (fun set g => set ||| g.kind.bit) (s.axis n).seq.later } := by
  unfold State.takeHanded
  rw [w, List.foldl_cons]
  have e : ((s.modSeq n fun q => { q with handed := [] }).takeCause n g.kind g.outcome).axis n =
      { (s.axis n).discarded.into .held s.timeBase s.xstopHigh with
        seq.handed := [], seq.heldCause := some g.kind } := by
    unfold State.takeCause
    rw [State.axis_modSeq_same]
    simp only [h]
    rw [State.enterHeld_own, State.axis_modSeq_same, if_neg (by rw [h]; decide)]
    rfl
  rw [State.heldTakes_own n _ _ (by rw [e]; rfl), e]
  rfl

/-- With no notice waiting, the composition of a page is no event of the axis. -/
theorem State.afterPage_of_none {s : State} {n : AxisId} (h : (s.axis n).seq.handed = []) : s.afterPage n = s := if_pos h

/-- R110: the axis that takes, after its page, the notices that waited leaves what `Frame` says. -/
theorem State.frame_afterPage (s : State) (n : AxisId) : Frame n s (s.afterPage n) := by
  unfold State.afterPage; split
  · exact .refl ..
  · exact (s.calm_takeHanded n).toFrame.trans (State.frame_conclude _ n)

end Sys2Proof.Machine
end

