-- ==== Sys2Proof/Tests/Slice0.lean ====
section
/-! SUPPORT. The model's own tests: ill-formed terms are refused, small single steps, and for every statement with
hypotheses a state and operands that meet them, clause by clause. -/

namespace Sys2Proof.Tests

open Sys2Proof.Machine

/-- The state that a command leaves, if it leaves one. -/
def after (c : Instr) (s : State) : Option State :=
  match exec c s with
  | .next t => some t
  | .fault _ => none
  | .refused _ => none

/-! ### States to test on -/

def sec : Section :=
  { kind := .linear, edge := .x4, output := .split, side := none, indexCheck := false, settle := 20, tolerance := 0,
    stall := 500, pause := 150, slack := 30, timeLimit := 0, lower := 0, upper := 100000, indexSpan := 0,
    routeBase := 0x1000, length := 8, s0 := 0x20, pageAddr := 0x8000 }

def openAll : Aperture := ⟨0x1000, 0xFFFF, 0x100000, .readWrite, true⟩
def readOnly : Aperture := ⟨0x20000, 0x2FFFF, 0, .readOnly, false⟩
def unused : Aperture := ⟨0, 0, 0, .none, false⟩
def prof : Profile := ⟨400, 40, 5, 3⟩

def setup : Setup :=
  { enableMask := 0x3, dryNotify := 0x3, patrol := 100, report := 250
    apertures := ⟨openAll, readOnly, unused, unused, unused, unused⟩
    profiles := ⟨prof, prof, prof, prof, prof, prof, prof, prof⟩
    sections := ⟨some sec, some { sec with routeBase := 0x2000, pageAddr := 0x8040 }, none, none⟩ }

/-- An axis in IDLE after a load. -/
def idle : AxisUnit :=
  { route := { RouteUnit.reset with expected := 0x20 }
    seq := { Sequencer.reset with state := .idle }
    pos := { PositionUnit.reset with
      counting := some ⟨.x4, .linear⟩, params := some ⟨20, 500, false, 0, 0⟩, referenced := true }
    drive := { DriveStage.reset with mode := .split, pause := 150 }
    page := .reset }

/-- An IDLE axis that has stood still since the reading 20, for longer than its reversal pause. -/
def atRest : AxisUnit := { idle with drive := { idle.drive with restStart := some 20, revClear := true } }

/-- RUNNING with axis 0 as given, axis 1 IDLE, axes 2 and 3 disabled. -/
def on (u : AxisUnit) : State :=
  { State.reset with
    timeBase := 1000
    cmd.controller := .running
    setup := some setup
    apertureOpen := ⟨true, false, false, false, false, false⟩
    axes := ⟨u, atRest, .reset, .reset⟩ }

/-- A record with stamp 0x20. -/
def issue (kind : Byte) (selector a b : Word) : IssueRegion := ⟨(0 : Byte) ++ kind ++ (0x20 : Stamp), selector, a, b, 7⟩

def executing (r : IssueRegion) (k : KindState) : Executing :=
  { record := r, slot := 0, startTime := 900, legs := 1, corrections := 0, work := k }

def leg : Leg := ⟨.final, .first, .forward, 5000, 3000, prof, some 40⟩
def moving : KindState := .move ⟨5000, some leg, []⟩
def seeking : KindState := .search ⟨.forward, .search, 0, false⟩

/-- Axis 0 with an executing record. -/
def busy (st : AxisState) (k : KindState) : AxisUnit :=
  { idle with seq := { idle.seq with state := st, executing := some (executing (issue 1 0 5000 0) k) } }

/-- Axis 0 in HELD. -/
def held : AxisUnit := { idle with seq := { idle.seq with state := .held, heldCause := some .missed } }

/-- A DWELLING axis and an AWAITING one. -/
def dwelling : AxisUnit := busy .dwelling (.dwell 1000)
def awaiting : AxisUnit := busy .awaiting (.await ⟨.a1, 0x20, some 1000, [0x1F]⟩)

/-- STOPPING, with the outcome and cause given. -/
def stopping (k : Option FaultKind) : AxisUnit :=
  let u := busy .stopping (.move ⟨5000, none, []⟩)
  { u with seq.heldCause := k, seq.stoppingOutcome := some .abandoned }

/-- A PAUSING axis whose pause of 150 ms ends at the reading 1000. -/
def pausing : AxisUnit :=
  { busy .pausing moving with
    drive := { idle.drive with lastDir := some .reverse, restStart := some 850 } }

def entry : ClosureEntry := ⟨0, issue 1 0 5000 0, .reached, 0x01, 5000, 77⟩

/-- The state with an access of the kind given in progress. -/
def during (s : State) (k : AccessKind) : State := { s with port.access := some ⟨k, some .e0, [], false⟩ }

/-- `AxisUnit.Shaped` as a Bool. -/
def shaped (u : AxisUnit) : Bool :=
  (match u.seq.executing with | some x => u.seq.state.allows x.work | none => true)
    && (!u.seq.state.busy || u.seq.executing.isSome)
    && (u.seq.executing.isNone || u.route.closure.isNone)
    && (u.seq.latch.isNone || (u.seq.state == .held && u.route.closure.isNone))
    && (u.seq.delivery.isNone || u.seq.latch.isSome)
    && (u.seq.state != .held || u.seq.heldCause.isSome)
    && (u.seq.heldCause.isNone || u.seq.state == .held || u.seq.state == .stopping)
    && (u.seq.later == 0 || u.seq.heldCause.isSome)
    && (!(u.seq.state == .held || u.seq.state == .stopping || u.seq.state == .dormant)
        || (u.route.staging.isEmpty && u.route.target.isNone))
    && (u.seq.state != .dormant || u.route.closure.isNone)
    && (u.seq.handed.isEmpty
        || ((u.seq.state == .idle || u.seq.state == .held) && u.seq.executing.isNone && u.page.due))
    && (!u.pos.repeatsLoss || u.seq.state == .dormant || u.seq.state == .stopping || u.seq.state == .held
        || (u.seq.state == .idle && !u.seq.handed.isEmpty))

theorem shaped_of {u : AxisUnit} (h : shaped u = true) : u.Shaped := by
  unfold shaped at h
  simp only [Bool.and_eq_true, Bool.or_eq_true, Bool.not_eq_true', bne_iff_ne, beq_iff_eq, ne_eq,
    Option.isNone_iff_eq_none, List.isEmpty_iff, List.isEmpty_eq_false_iff] at h
  obtain ⟨⟨⟨⟨⟨⟨⟨⟨⟨⟨⟨h1, h2⟩, h3⟩, h4⟩, h5⟩, h6⟩, h7⟩, h8⟩, h9⟩, h10⟩, h11⟩, h12⟩ := h
  constructor
  · intro x hx; rw [hx] at h1; exact h1
  · intro k; rcases h2 with e | e
    · rw [e] at k; cases k
    · exact e
  · intro k; rcases h3 with e | e
    · rw [e] at k; cases k
    · exact e
  · intro k; rcases h4 with e | e
    · rw [e] at k; cases k
    · exact e
  · intro k; rcases h5 with e | e
    · rw [e] at k; cases k
    · exact e
  · intro k; rcases h6 with e | e
    · exact absurd k e
    · exact e
  · intro k; rcases h7 with (e | e) | e
    · rw [e] at k; cases k
    · exact .inl e
    · exact .inr e
  · intro k; rcases h8 with e | e
    · exact absurd e k
    · exact e
  · intro k; rcases h9 with e | e
    · rcases k with k | k | k <;> simp [k] at e
    · exact e
  · intro k; rcases h10 with e | e
    · exact absurd k e
    · exact e
  · intro k; rcases h11 with e | ⟨⟨e, f⟩, g⟩
    · exact absurd e k
    · exact ⟨e, f, g⟩
  · intro k; rcases h12 with (((e | e) | e) | e) | e
    · rw [e] at k; cases k
    · exact .inl e
    · exact .inr (.inl e)
    · exact .inr (.inr (.inl e))
    · exact .inr (.inr (.inr e))

/-- Every axis of `on u` has its shape where axis 0 has. -/
theorem on_shaped {u : AxisUnit} (h : shaped u = true) (n : AxisId) : ((on u).axis n).Shaped := by
  cases n
  · exact shaped_of h
  · exact shaped_of (u := atRest) (by decide)
  · exact shaped_of (u := .reset) (by decide)
  · exact shaped_of (u := .reset) (by decide)

/-! ### WellFormed: what is no command is refused (assumption 13) -/

/-- UNKNOWN_COMMAND_CODE with a code of the command table is ill-formed, and `exec` refuses it; the codes beside one are
well-formed. -/
theorem test_ill_formed_code :
    (Instr.unknownCommandCode 0x7F 0 0).wellFormed = false ∧ (Instr.unknownCommandCode 0x7E 0 0).wellFormed = true
      ∧ (Instr.unknownCommandCode 0x14 0 0).wellFormed = true
      ∧ exec (.unknownCommandCode 0x7F 0 0) State.reset = .refused .notACommand := by
  refine ⟨?_, ?_, ?_, rfl⟩ <;> decide

/-- REGISTER_WRITE_NO_EFFECT with a full write of a writable register is ill-formed, and `exec` refuses it; a write of
fewer bytes, or at IDENT or CONDITION, is well-formed. -/
theorem test_ill_formed_write :
    (Instr.registerWriteNoEffect 0x10 0xF 1).wellFormed = false
      ∧ (Instr.registerWriteNoEffect 0x10 0x7 1).wellFormed = true
      ∧ (Instr.registerWriteNoEffect 0x00 0xF 1).wellFormed = true
      ∧ (Instr.registerWriteNoEffect 0x18 0xF 1).wellFormed = true
      ∧ exec (.registerWriteNoEffect 0x10 0xF 1) State.reset = .refused .notACommand := by
  and_intros <;> first | decide | rfl

/-- R205: the layout of a word written to COMMAND, at the ends of its three fields. -/
theorem test_ofWrite :
    Instr.ofWrite 0x08 0xF 0x80010301 = .loadSetup 0x03 0x8001
      ∧ Instr.ofWrite 0x08 0xF 0xFFFFFF7E = .unknownCommandCode 0x7E 0xFF 0xFFFF
      ∧ Instr.ofWrite 0x08 0x7 0x01 = .registerWriteNoEffect 0x08 0x7 0x01
      ∧ Instr.ofWrite 0x18 0xF 0x01 = .registerWriteNoEffect 0x18 0xF 0x01
      ∧ Instr.ofWrite 0x10 0xF 0x20 = .attn 0x20 := by decide

/-- The part with RESET_N low. -/
def low : State := { State.reset with resetLow := true }

/-- RESET_N low: a write that a register takes is ignored, also as a term that is ill-formed (assumption 13), and reads give
the pin-reset values (R188). -/
theorem test_resetLow :
    exec (.setupAddr 0x40) low = .next low ∧ exec (.registerWriteNoEffect 0x10 0xF 1) low = .next low
      ∧ exec (.unknownCommandCode 0x7F 0 0) low = .next low ∧ low.readRegister 0x00 = 0x00024100
      ∧ low.readRegister 0x18 = 0x10 ∧ step low = .next low := by
  refine ⟨rfl, rfl, rfl, by decide, by decide, rfl⟩

/-- RESET_N low, then released with XSTOP_N found low and one REF found active. -/
theorem test_pinReset :
    (after (.pinReset ⟨true, true⟩ ⟨false, false, false, false⟩) (on idle)).map (fun t => (t.resetLow, t.timeBase)) =
        some (true, 0)
      ∧ (after (.pinReset ⟨false, false⟩ ⟨true, false, false, false⟩) low).map
          (fun t => (t.resetLow, t.readRegister 0x18, (t.axis .a0).pos.refLevel, (t.axis .a0).seq.refHanded)) =
        some (false, 0, true, false) := by decide

/-! ### A running axis, for the invariants -/

/-- Axis 0 drives FORWARD in RAPID, with a count change at the front of the queue. -/
def run : State :=
  { on { busy .rapid moving with drive :=
      { idle.drive with runFwd := true, rapid := true, lastDir := some .forward } } with
    pending := [.countChange .a0 [.single .a true false]] }

theorem run_shaped (n : AxisId) : (run.axis n).Shaped := on_shaped (u := (run.axis .a0)) (by decide) n

/-- A drive stage without an active run line is safe by what can be evaluated of it. -/
theorem axisSafe_stopped {s : State} {n : AxisId} (h : (s.axis n).drive.Sound) (hr : (s.axis n).drive.running = none)
    (ht : (s.axis n).drive.restStart = none ↔ s.standsStill n = false) : s.AxisSafe n :=
  ⟨h, State.lineJustified_of_stopped hr, by unfold State.RestTimed; rw [hr]; simpa using ht⟩

/-- `on u` has safe lines on every axis but 0. -/
theorem on_linesSafe {u : AxisUnit} (h : (on u).AxisSafe .a0) : (on u).LinesSafe
  | .a0 => h
  | .a1 => axisSafe_stopped (s := on idle) (n := .a1) (by constructor <;> decide) (by decide) (by decide)
  | .a2 => axisSafe_stopped (s := on idle) (n := .a2) DriveStage.sound_reset (by decide) (by decide)
  | .a3 => axisSafe_stopped (s := on idle) (n := .a3) DriveStage.sound_reset (by decide) (by decide)

/-- The premises of what every step keeps are met together, with a step that answers a next state. -/
theorem witness_invariants :
    run.LinesSafe ∧ run.RecordsOrdered ∧ run.AxesShaped ∧ run.CommandSound ∧ run.AxesAllowed ∧ run.PositionsSound
      ∧ run.PortSound ∧ ∃ t, step run = .next t := by
  refine ⟨?_, ⟨?_, ?_⟩, ?_, ?_, ?_, ?_, ?_, ⟨_, rfl⟩⟩
  · refine on_linesSafe (u := run.axis .a0) ⟨by constructor <;> decide, ?_, by show _ ↔ _; decide⟩
    intro d h
    have : d = .forward := by cases d; rfl; cases h
    subst this
    and_intros <;> decide
  · intro n c h
    cases n <;> cases h <;> decide
  · intro n
    cases n
    all_goals
      refine ⟨by decide, by decide, by decide, ?_, ?_, ?_⟩
      · intro x h
        cases h <;> exact ⟨by decide, by decide⟩
      · intro i g h; simp [run, on, busy, idle, atRest, State.axis, PerAxis.get, RouteUnit.reset, AxisUnit.reset] at h
      · intro t h; cases h
  · intro n
    refine ⟨run_shaped n, ?_⟩
    cases n <;> decide
  · constructor <;> first | decide | (intro n; cases n <;> decide)
  · exact ⟨fun n h => absurd rfl h, fun n h => absurd rfl h, fun n => by cases n <;> decide, fun h n k => by cases k⟩
  · intro n
    constructor
    · intro e m h; cases n <;> cases h
    · intro q h; cases n <;> cases h <;> decide
    · intro h; cases n <;> first | decide | cases h
    · intro h; cases n <;> cases h
  · intro n q h; cases n <;> cases h

/-- The pause of a PAUSING axis elapses at the reading 1000, against the last driven direction. -/
def pauseEnd : State := { on pausing with pending := [.pauseElapsed .a0] }

/-- R129, R130: the premises of the steps in which a run line becomes active against the last driven direction, with such a
step; and the rest start of an axis that begins to stand still as a millisecond passes. -/
theorem witness_LinesStaySafe :
    pauseEnd.LinesSafe ∧ pauseEnd.CommandSound ∧ pauseEnd.pending.head? = some (.pauseElapsed .a0)
      ∧ (pauseEnd.axis .a0).drive.Rested pauseEnd.timeBase ∧ (pauseEnd.axis .a0).drive.lastDir = some Direction.forward.opposite
      ∧ (after (.pauseElapsed .a0) (on pausing)).map (fun t => ((t.axis .a0).drive.running, (t.axis .a0).drive.lastDir,
          (t.axis .a0).drive.revClear, (t.axis .a0).drive.restStart)) = some (some .forward, some .forward, false, none)
      ∧ ((on { idle with pos.lastChange := 981 }).tick.axis .a0).drive.restStart = some 1001
      ∧ ((on { idle with pos.lastChange := 982 }).tick.axis .a0).drive.restStart = none := by
  refine ⟨on_linesSafe (axisSafe_stopped (s := on pausing) (by constructor <;> decide) (by decide) (by decide)), ?_, rfl, ⟨850, rfl, by decide⟩, ?_⟩
  · constructor <;> first | decide | (intro n; cases n <;> decide)
  · and_intros <;> decide

/-! ### The step, resets -/

/-- What the break of a pair leaves of a position unit at rest (R108, R109). -/
def broken (p : PositionUnit) : PositionUnit :=
  { p with standstill := true, pairs.z := true, lossMark := true, referenced := false }

/-- An IDLE axis, its encoder LOST, for which a repeated ENCODER_LOST notice waits until its page is composed. -/
def lossy : AxisUnit :=
  { idle with pos := broken idle.pos, seq.handed := [⟨.encoderLost, .encoderLost⟩], page.due := true }

/-- Each case of an empty queue: RESET_N low; a millisecond passes after reset; a drive stage's setup time is queued. -/
theorem witness_EmptyQueueIdles :
    State.reset.pending = [] ∧ low.pending = [] ∧ low.resetLow = true ∧ State.reset.resetLow = false
      ∧ State.reset.ownEvents = []
      ∧ State.reset.idle = { State.reset with timeBase := 1, axes := State.reset.idle.axes }
      ∧ (on { idle with drive := { idle.drive with dirSetup := true } }).idle.pending.head? =
          some (.directionSetupElapsed .a0) := by
  and_intros <;> decide

/-- Axis 0 alone, to stand still at the reading 1001, with a pause of 0 ms, last driven in REVERSE. -/
def alone (u : AxisUnit) : State :=
  { on idle with axes :=
      ⟨{ u with pos.lastChange := 981, drive := { idle.drive with pause := 0, lastDir := some .reverse } }, .reset, .reset, .reset⟩ }

theorem alone_rests (st : AxisState) (k : KindState) : (alone (busy st k)).RestBegins .a0 :=
  ⟨rfl, rfl, show (false || timeReached 981 20 (1000 + 1)) = true by decide⟩

theorem alone_endsPause {k : KindState} (h : (busy .pausing k).seq.motionDirection = some .forward) :
    (alone (busy .pausing k)).TickEndsPause .a0 :=
  ⟨rfl, .forward, h, .inr ⟨rfl, alone_rests ..⟩⟩

/-- R89, R130: the standstill that a millisecond brings ends a pause of 0 ms: nothing is queued, and in the one step a PAUSING leg
drives, one with no distance to go closes REACHED or MISSED, a PAUSING search goes to SEEKING, and a CREEP request held back for
the pause drives; a millisecond earlier the axis waits. -/
theorem witness_EmptyQueueIdlesPauseEnds :
    let next (u : AxisUnit) := let t := (alone u).idle
      ((t.axis .a0).seq.state, (t.axis .a0).drive.running, (t.axis .a0).drive.revClear, t.timeBase)
    let short (target : Int) : KindState := .move ⟨target, some { leg with togo := 0 }, []⟩
    (alone (busy .pausing moving)).TickEndsPause .a0 ∧ (alone (busy .pausing seeking)).TickEndsPause .a0
      ∧ (alone (busy .pausing (short 5))).TickEndsPause .a0 ∧ (alone (busy .creep moving)).TickClears .a0 .forward
      ∧ (alone (busy .pausing moving)).ownEvents = [] ∧ (alone (busy .creep moving)).ownEvents = []
      ∧ (alone (busy .pausing (short 5))).ownEvents = [] ∧ (alone (busy .pausing seeking)).ownEvents = []
      ∧ next (busy .pausing moving) = (.rapid, some .forward, false, 1001)
      ∧ next (busy .pausing seeking) = (.seeking, some .forward, false, 1001)
      ∧ next (busy .creep moving) = (.creep, some .forward, false, 1001)
      ∧ next (busy .pausing (short 5)) = (.idle, none, true, 1001)
      ∧ (((alone (busy .pausing (short 5))).idle.axis .a0).route.closure.map fun w => (w.entry.outcome, w.entry.elapsed)) =
          some (.reached, 101)
      ∧ next (busy .pausing (short 6)) = (.creep, some .forward, false, 1001)
      ∧ (({ alone (busy .pausing moving) with timeBase := 999 } : State).idle.axis .a0).seq.state = .pausing := by
  refine ⟨alone_endsPause rfl, alone_endsPause rfl, alone_endsPause rfl, .inr ⟨rfl, alone_rests ..⟩, ?_⟩
  and_intros <;> decide

/-- R110, R169: a release of an axis whose encoder is LOST completes with the axis IDLE; the page that is composed then shows
IDLE, and the axis is HELD with ENCODER_LOST after it, its next page due. -/
theorem test_releasedLost :
    (after (.releaseAxis 0 0) (on { held with pos.pairs.z := true })).map
        (fun t => ((t.axis .a0).seq.state, (t.axis .a0).page.due, (t.axis .a0).seq.handed, t.cmd.result)) =
      some (.idle, true, [⟨.encoderLost, .encoderLost⟩], .done)
      ∧ (after .arbiterGrant (on lossy)).map
        (fun t => (t.port.access.map fun a => (a.transfers.getD 1 ⟨0, none⟩).data, (t.axis .a0).seq.state)) =
        some (some (some 0x00000001), .held)
      ∧ (after .arbiterGrant (on lossy)).map
        (fun t => ((t.axis .a0).seq.heldCause, (t.axis .a0).seq.handed, (t.axis .a0).page.due)) =
        some (some .encoderLost, [], true) := by
  and_intros <;> decide +kernel

/-- A STEER drive stage in its hold time is sound, as ResetPartValues asks. -/
theorem witness_ResetPartValues :
    DriveStage.Sound { idle.drive with mode := .steer, runRev := true, dirHold := true } := by
  constructor <;> decide

/-- Log 34: a pin reset in the hold time of a STEER axis takes run and the direction line inactive in its event, where a
RESET_PART leaves the direction line to its hold time. -/
theorem test_steerResets :
    let s := on { idle with drive := { idle.drive with mode := .steer, runRev := true, dirHold := true } }
    (after (.pinReset ⟨true, true⟩ ⟨false, false, false, false⟩) s).map (fun t => (t.axis .a0).drive.runRev) = some false
      ∧ (after (.resetPart 0 0) s).map (fun t => ((t.axis .a0).drive.runRev, (t.axis .a0).drive.dirDrop)) =
          some (true, true) := by decide

/-- The registers of chapter 10: COMMAND with a refused snapshot of axis 2, and CONDITION with every field set. -/
theorem test_registers :
    { State.reset with
        cmd.lastCode := 0x13, cmd.result := .refusedAccess, cmd.detail := 2, cmd.detailIndex := 5 }.readRegister 0x08 =
      0x05020613
      ∧ { State.reset with
          cmd.controller := .halting, cmd.overrun := true
          axes := ⟨{ held with page.stale := true }, .reset, { held with seq.latch := some entry }, .reset⟩ }.readRegister
          0x18 = 0x4134 ∧ State.reset.readRegister 0x0C = 0 ∧ State.reset.readRegister 0x1C = 0
      ∧ State.reset.readRegisterByte 0x00 1 = 0x41 ∧ State.reset.readRegister 0x02 = 0 := by decide

/-- RESET_PART leaves CONDITION with XSTOP_N high, BLANK. -/
theorem test_resetPart : (after (.resetPart 0 0) run).map (fun t => (t.readRegister 0x18, t.readRegister 0x08)) =
    some (0x10, 0x27F) := by decide

/-- An event of each group of EventsKeepFrame is answered with a next state. -/
theorem witness_EventsKeepFrame :
    (∃ t, exec (.assertionNotice .a0) run = .next t) ∧ (∃ t, exec (.indexPulse .a0) run = .next t)
      ∧ (∃ t, exec (.fetchEnd .a0 .busError) (during run (.route .a0 .fetch)) = .next t)
      ∧ (∃ t, exec (.stallTimeExpiry .a0) run = .next t)
      ∧ (∃ t, exec (.verificationRereadEnd .a0 (.data (issue 7 0 1 30))) (during run (.route .a0 .verification)) = .next t)
      ∧ ∃ t, exec (.deliveryWriteEnd .a0 .acknowledged) (during run (.route .a0 .deliveryWrite)) = .next t :=
  ⟨⟨_, rfl⟩, ⟨_, rfl⟩, ⟨_, rfl⟩, ⟨_, rfl⟩, ⟨_, rfl⟩, ⟨_, rfl⟩⟩

/-! ### Registers -/

/-- The boundary values of the ATTN bits and the IRQ clause of AttnMaskWriteReplaces. -/
theorem witness_Attn :
    (∀ i, i < 6 → (0x3F : Word).getLsbD i = true ∧ (0x3F : BitVec 6).getLsbD i = true)
      ∧ (0x3F : BitVec 6) &&& ~~~((0x3F : Word).extractLsb' 0 6) &&& 0x3F = 0 ∧ (0x20 : BitVec 6) &&& 0x3F ≠ 0 := by
  decide

/-- A write to ATTN clears the bits written as 1 and releases IRQ_N. -/
theorem test_attn :
    (after (.attn 0x11) { run with attn := 0x13, attnMask := 0x11 }).map (fun t => (t.attn, t.irqAsserted)) =
      some (0x02, false) := by decide

/-- LOAD_SETUP of SetupAddrHolds: taken in BLANK with the highest multiple of 32. -/
theorem witness_SetupAddrHolds :
    (after (.loadSetup 0 0) { State.reset with cmd.setupAddr := 0xFFFFFFE0 }).map
        (fun t => (t.cmd.controller, t.cmd.loadAddress)) = some (.loading, some 0xFFFFFFE0)
      ∧ State.reset.cmd.controller ≠ .loading := by decide

/-- A staged record, and an idle axis that holds it. -/
def staged : AxisUnit := { idle with route.staging := [⟨0, issue 1 0 5000 0⟩] }

/-- Each kind of axis that NoticeTaken tells apart: not named, DORMANT, one that starts a fetch, one that takes its head, and
the states in which neither happens: HELD, IDLE outside RUNNING, a fetch in flight, motion, DWELLING and AWAITING with two
records staged, PAUSING before its pause is over. -/
theorem witness_NoticeTaken :
    State.reset.resetLow = false ∧ (0x1 : Word).getLsbD AxisId.a0.toNat = true
      ∧ (0x1 : Word).getLsbD AxisId.a3.toNat = false ∧ ((on idle).axis .a2).seq.state = .dormant
      ∧ (∀ u ∈ [idle, held, staged, dwelling, awaiting, busy .rapid moving, pausing, stopping none, busy .seeking seeking],
          (on u).resetLow = false ∧ shaped u = true ∧ (((on u).evalDrive .a0).axis .a0).pauseOver = false)
      ∧ (on idle).FetchStarts .a0 ∧ ¬ (on idle).TakesHead .a0 ∧ (on idle).sectionOf .a0 = some sec
      ∧ (on (busy .rapid moving)).FetchStarts .a0 ∧ (on awaiting).FetchStarts .a0
      ∧ (on staged).TakesHead .a0 ∧ (on staged).routeFree .a0 = true
      ∧ (∀ n, (on idle).PauseHolds n) ∧ ¬ (on held).FetchStarts .a0 ∧ ¬ { on idle with cmd.controller := .loaded }.FetchStarts .a0
      ∧ ¬ (during (on idle) (.route .a0 .fetch)).FetchStarts .a0 := by
  and_intros <;>
    first | decide | (unfold State.FetchStarts; decide) | (unfold State.TakesHead; decide) | (intro n; cases n <;> rfl)

/-- A notice with a fetch in flight and DRY set leaves the latch set and DRY clear. -/
theorem test_noticeLatch :
    (after (.notice 1) (during (on { idle with route.dry := true }) (.route .a0 .fetch))).map
        (fun t => ((t.axis .a0).route.noticeLatch, (t.axis .a0).route.dry, (t.axis .a0).route.target)) =
      some (true, false, none) := by decide

/-- A notice starts the fetch of slot C for stamp E. -/
theorem test_notice : (after (.notice 1) (on idle)).map (fun t => ((t.axis .a0).route.target, t.port.waiting.a0)) =
    some (some ⟨0, 0x20⟩, some ⟨.fetch, 0x1000, []⟩) := by decide

/-! ### Commands -/

/-- A state with a command pending. -/
def waits : State := { on idle with cmd.result := .pending, cmd.lastCode := 0x13, cmd.pendingIndex := some 0 }

theorem witness_PendingDropsCommands : waits.cmd.result = .pending ∧ (0x7E : Byte) ∉ knownCommandCodes := by decide

/-- Every premise of CommandsRefused, at the bounds of the index and the codes. -/
theorem witness_CommandsRefused :
    (on idle).cmd.result ≠ .pending ∧ (0x14 : Byte) ∉ knownCommandCodes ∧ 3 < (4 : Byte).toNat
      ∧ (3 : Byte) = AxisId.a3.toIndex ∧ ((on idle).axis .a3).seq.state = .dormant ∧ State.reset.cmd.controller = .blank
      ∧ ((on idle).axis .a0).seq.state ≠ .held ∧ (run.axis .a0).seq.state ≠ .idle ∧ (run.axis .a0).seq.state ≠ .held
      ∧ { run with xstopHigh := false }.xstopHigh = false := by decide

/-- The tests of LOAD_SETUP: RUNNING, an occupied latch, an address off a multiple of 32 by one, and a load that is taken. -/
theorem witness_LoadSetupTaken :
    run.cmd.result ≠ .pending ∧ run.cmd.controller ≠ .blank ∧ run.cmd.controller ≠ .loaded
      ∧ State.reset.cmd.controller = .blank ∧ (∀ n, (State.reset.axis n).seq.latch = none)
      ∧ State.reset.cmd.setupAddr.toNat % 32 = 0
      ∧ { State.reset with cmd.setupAddr := 0x1F }.cmd.setupAddr.toNat % 32 ≠ 0
      ∧ ((on { held with seq.latch := some entry }).axis .a0).seq.latch.isSome = true
      ∧ { on held with cmd.controller := .loaded }.cmd.controller = .loaded := by
  have empty : ∀ n, (State.reset.axis n).seq.latch = none := fun n => by cases n <;> rfl
  and_intros <;> first | decide | exact empty

/-- LOADED with XSTOP_N low and an IDLE axis whose assertion notice is under way. -/
def startLow : State :=
  { on idle with
    cmd.controller := .loaded, xstopHigh := false, axes := ⟨{ idle with seq.stopNotices := 1 }, held, .reset, .reset⟩ }

/-- With XSTOP_N low the IDLE axis is found HELD with LINE_STOP, and no fetch begins. -/
theorem test_startLow :
    startLow.resetLow = false ∧ startLow.xstopHigh = false ∧ startLow.cmd.result ≠ .pending
      ∧ shaped (startLow.axis .a0) = true
      ∧ (after (.start 0 0) startLow).map
          (fun t => ((t.axis .a0).seq.heldCause, (t.axis .a0).seq.stopNotices, (t.axis .a0).route.target,
            (t.axis .a1).seq.later, t.cmd.controller)) =
        some (some .lineStop, 0, none, 0, .running) := by
  and_intros <;> decide +kernel

/-- START is taken with an IDLE, a HELD and a DORMANT axis. -/
theorem witness_StartTaken :
    let s := { on idle with cmd.controller := .loaded, axes := ⟨idle, held, .reset, .reset⟩ }
    s.cmd.result ≠ .pending ∧ s.cmd.controller = .loaded ∧ s.cmd.halt = none ∧ (s.axis .a1).Shaped
      ∧ (s.axis .a1).seq.state = .held ∧ (s.axis .a2).seq.state = .dormant ∧ (s.axis .a0).seq.state = .idle
      ∧ s.sectionOf .a0 = some sec ∧ s.routeFree .a0 = true ∧ (s.axis .a0).route.staging = []
      ∧ (s.axis .a0).seq.executing = none ∧ (s.axis .a0).route.closure = none ∧ (s.axis .a0).seq.delivery = none
      ∧ (s.axis .a0).route.dry = false ∧ run.cmd.controller ≠ .loaded := by
  and_intros <;> first | decide | exact shaped_of (u := held) (by decide)

/-- R105: a command has no order against a repeated ENCODER_LOST notice that waits: ABORT_AXIS holds the axis, and the notice
still waits for the page. -/
theorem test_abortBeforeLoss :
    (after (.abortAxis 0 0) (on lossy)).map
        (fun t => ((t.axis .a0).seq.heldCause, (t.axis .a0).seq.handed, t.cmd.result)) =
      some (some .aborted, [⟨.encoderLost, .encoderLost⟩], .done) := by decide

/-- An axis whose last count was 100 ms ago stands still; one that has just counted does not. -/
def moved (u : AxisUnit) : AxisUnit := { u with pos.lastChange := 1000 }

/-- HALT_ALL, taken: each kind of axis it tells apart, with and without standstill. -/
theorem witness_HaltAllTaken :
    run.cmd.result ≠ .pending ∧ run.cmd.controller = .running ∧ (∀ n, (run.axis n).Shaped)
      ∧ (∀ n, ((on (stopping none)).axis n).Shaped) ∧ (∀ n, ((on dwelling).axis n).Shaped)
      ∧ (∀ n, ((on awaiting).axis n).Shaped) ∧ (∀ n, ((on held).axis n).Shaped)
      ∧ (∀ n, (on idle).settledNow n = true) ∧ (on (moved (busy .rapid moving))).standsStill .a0 = false
      ∧ ((on (moved (busy .rapid moving))).axis .a0).seq.state.inMotion = true
      ∧ ((on (busy .rapid moving)).axis .a0).seq.state.inMotion = true
      ∧ (on (busy .rapid moving)).standsStill .a0 = true ∧ State.reset.cmd.controller ≠ .running := by
  and_intros <;> first | decide | exact run_shaped | exact on_shaped (by decide) | (intro n; cases n <;> decide)

/-- A move at standstill closes ABANDONED in the event of HALT_ALL, and its axis is IDLE. -/
theorem test_haltAtRest : (after (.haltAll 0 0) (on (busy .rapid moving))).map
      (fun t => ((t.axis .a0).seq.state, (t.axis .a0).route.closure.map fun w => w.entry.outcome, t.cmd.controller)) =
    some (.idle, some .abandoned, .halting) := by decide

/-- A halt of standing axes completes in its event. -/
theorem test_haltAll : (after (.haltAll 0 0) (on idle)).map (fun t => (t.cmd.controller, t.cmd.result)) =
    some (.loaded, .done) := by decide

/-- ABORT_AXIS, taken, in each of its states, with and without standstill. -/
theorem witness_AbortAxisTaken :
    (on held).cmd.result ≠ .pending ∧ (on held).cmd.controller ≠ .blank ∧ (on held).cmd.controller ≠ .loading
      ∧ (∀ u ∈ [held, idle, dwelling, awaiting, stopping none, busy .rapid moving, moved (busy .rapid moving),
          busy .seeking seeking], shaped u = true ∧ u.seq.state ≠ .dormant)
      ∧ (on (busy .rapid moving)).standsStill .a0 = true ∧ (on (moved (busy .rapid moving))).standsStill .a0 = false := by
  decide

theorem test_abortAxis : (after (.abortAxis 0 0) (on (moved (busy .rapid moving)))).map
      (fun t => ((t.axis .a0).seq.state, (t.axis .a0).seq.stoppingOutcome, t.cmd.result)) =
    some (.stopping, some .abandoned, .pending) := by decide

/-- RELEASE_AXIS, taken: an empty and an occupied latch, an encoder that is LOST, a fetch that follows. -/
theorem witness_ReleaseAxisTaken :
    (on held).cmd.result ≠ .pending ∧ (on held).cmd.controller = .running ∧ (on held).xstopHigh = true
      ∧ (∀ u ∈ [held, { held with seq.latch := some entry }, { held with pos.pairs.z := true },
            { held with seq.handed := lossy.seq.handed, page.due := true }], shaped u = true ∧ u.seq.state = .held)
      ∧ (on held).sectionOf .a0 = some sec ∧ (on held).routeFree .a0 = true ∧ held.route.closure = none
      ∧ ({ held with pos.pairs.z := true } : AxisUnit).pos.pairs.lost = true
      ∧ held.pos.counting.isSome = true := by decide

theorem test_releaseAxis : (after (.releaseAxis 0 0) (on held)).map
      (fun t => ((t.axis .a0).seq.state, (t.axis .a0).route.target, t.cmd.result)) =
    some (.idle, some ⟨0, 0x20⟩, .done) := by decide

/-- CLEAR_REFERENCE: a taken one, its refusals at the bounds, and a record that is a move. -/
theorem witness_ClearReferenceTaken :
    (on idle).cmd.result ≠ .pending ∧ 3 < (4 : Byte).toNat ∧ (0 : Byte) = AxisId.a0.toIndex
      ∧ (run.axis .a0).seq.state ≠ .idle ∧ (run.axis .a0).seq.state ≠ .held ∧ (on idle).cmd.controller ≠ .blank
      ∧ (on idle).cmd.controller ≠ .loading ∧ ((on idle).axis .a0).seq.state = .idle
      ∧ WaypointKind.ofCode (issue 1 0 0 0).kind = some .moveTo ∧ WaypointKind.ofCode (issue 2 0 0 0).kind = some .moveBy := by
  decide

theorem witness_SnapshotTaken :
    (on idle).cmd.result ≠ .pending ∧ (on idle).cmd.controller ≠ .blank ∧ (on idle).cmd.controller ≠ .loading
      ∧ ((on idle).axis .a1).seq.state ≠ .dormant := by decide

/-- The aperture commands: index 5 and 6, an entry in use, one that is not, no setup. -/
theorem witness_ApertureCommands :
    (on idle).cmd.result ≠ .pending ∧ 5 < (6 : Byte).toNat ∧ (5 : Byte).toNat = EntryId.e5.toNat
      ∧ State.reset.cmd.controller = .blank ∧ (on idle).cmd.controller ≠ .blank ∧ (on idle).cmd.controller ≠ .loading
      ∧ (on idle).setup = some setup ∧ (setup.apertures.get .e5).rights = .none
      ∧ (setup.apertures.get .e0).rights ≠ .none := by decide

/-! ### The stop line -/

/-- An assertion with the level high and sound lines, a release with it low. -/
theorem witness_StopLineEdges :
    run.xstopHigh = true ∧ (∀ n, (run.axis n).drive.Sound) ∧ { run with xstopHigh := false }.xstopHigh = false :=
  ⟨by decide, fun n => (witness_invariants.1 n).1, by decide⟩

/-- The assertion takes the run line inactive and hands the notice. -/
theorem test_xstopAssertion : (after .xstopAssertion run).map
      (fun t => ((t.axis .a0).drive.running, (t.axis .a0).drive.lockout, (t.axis .a1).seq.stopNotices, t.attn)) =
    some (none, true, 1, 0x20) := by decide

/-- A notice to take, in each state that R63 to R68 tell apart. -/
theorem witness_AssertionNoticeTaken :
    run.cmd.controller = .running
      ∧ (∀ u ∈ [held, idle, dwelling, awaiting, stopping none, stopping (some .aborted), busy .creep moving,
          moved (busy .creep moving)], shaped { u with seq.stopNotices := 1 } = true) := by decide

/-! ### Counting and index pulses -/

def rotary : AxisUnit := { busy .rapid moving with pos.counting := some ⟨.x1, .rotary 16⟩, pos.raw := 15 }

theorem pos_sound (u : AxisUnit) (q : PositionUnit) (h : u.pos = { idle.pos with lastChange := q.lastChange }) :
    u.pos.Sound := by
  rw [h]
  exact ⟨fun e m k => (by cases k), fun p k => (by cases k; decide), fun _ => rfl, fun k => (by cases k)⟩

/-- Count changes on a linear axis and at the end of a rotary axis's range, with a measurement that goes on and one that a
count against it ends, and with the stall watch running. -/
theorem witness_CountChangeCounts :
    idle.pos.Sound ∧ rotary.pos.Sound ∧ rotary.pos.counting = some ⟨.x1, .rotary 16⟩
      ∧ [Edge.single .a true false].filterMap EdgeMode.x1.count = [.forward]
      ∧ [Edge.single .b false true].filterMap EdgeMode.x4.count = [.reverse]
      ∧ (run.axis .a0).seq.state.driving = true := by
  refine ⟨pos_sound idle idle.pos rfl, ?_, ?_⟩
  rotate_left
  · and_intros <;> decide
  exact ⟨fun e m k => (by cases k; decide), fun p k => (by cases k; decide), fun _ => rfl, fun k => (by cases k)⟩

/-- One count past the end of a rotary range reads 0. -/
theorem test_countChange : (after (.countChange .a0 [.single .a true false]) (on rotary)).map
      (fun t => ((t.axis .a0).pos.raw, (t.axis .a0).seq.state)) = some (0, .rapid) := by decide

/-- A leg one count above its cut point and above the slow distance, and a search at its limit B. -/
theorem witness_CountChangeMovesRecord :
    idle.pos.Sound ∧ (busy .rapid (.move ⟨5000, some { leg with togo := 401 }, []⟩)).seq.state = .rapid
      ∧ (after (.countChange .a0 [.single .a true false])
          (on (busy .rapid (.move ⟨5000, some { leg with togo := 401 }, []⟩)))).map (fun t => (t.axis .a0).seq.state) =
        some .creep
      ∧ (after (.countChange .a0 [.single .a true false])
          (on (busy .creep (.move ⟨5000, some { leg with togo := 41 }, []⟩)))).map (fun t => (t.axis .a0).seq.state) =
        some .coasting
      ∧ (after (.countChange .a0 [.single .a true false]) (on (busy .seeking seeking))).map
          (fun t => ((t.axis .a0).seq.state, (t.axis .a0).seq.heldCause)) =
        some (.stopping, some .searchExhausted)
      ∧ (busy .pausing moving).drive.needsPause .forward = false
      ∧ ({ busy .pausing moving with drive.lastDir := some .reverse } : AxisUnit).drive.needsPause .forward = true := by
  refine ⟨pos_sound idle idle.pos rfl, ?_⟩
  and_intros <;> decide

/-- A measurement at the highest count that 32 bits hold, and an axis with none. -/
theorem witness_IndexPulseMeasures :
    idle.pos.counting.isSome = true ∧ idle.pos.span = none
      ∧ (⟨.forward, 4294967295⟩ : SpanMeasurement).count < 4294967296 ∧ idle.seq.qualifies = none
      ∧ (busy .seeking seeking).seq.qualifies = none := by decide

/-- A span one count beyond the tolerance, under the checks of a rotary and a linear axis, with and without a search. -/
def slipping : AxisUnit :=
  { idle with
    pos.counting := some ⟨.x4, .rotary 16⟩, pos.span := some ⟨.forward, 18⟩
    pos.params := some ⟨20, 500, true, 0, 1⟩ }

/-- An axis that searches for the index pulse (mode INDEX, selector 1). -/
def searching : AxisUnit :=
  { busy .seeking seeking with
    seq := { (busy .seeking seeking).seq with
      executing := some { executing (issue 3 1 100 5000) seeking with legs := 1 } } }

theorem witness_IndexPulseSlips :
    shaped slipping = true ∧ (1 : Int) < |((18 : Nat) : Int) - ((16 : Nat) : Int)| ∧ slipping.seq.qualifies = none
      ∧ shaped { searching with pos := slipping.pos } = true
      ∧ ({ searching with pos := slipping.pos } : AxisUnit).seq.qualifies.isSome = true
      ∧ slipping.pos.slips 18 = true ∧ slipping.pos.slips 17 = false
      ∧ shaped { slipping with seq := lossy.seq, page.due := true } = true ∧ lossy.seq.handed ≠ [] := by
  and_intros <;> decide

/-- A released axis whose encoder is LOST, with a measurement out of tolerance under an enabled check. -/
def slipsLost : AxisUnit := { slipping with pos := broken slipping.pos }

/-- What an index pulse leaves of axis 0 for either order of its slip and the sequencer's test of the pulse (log 8). -/
def pulseTaken (first : Bool) (t : State) : State :=
  let s := { t.modPos .a0 fun p => p.takePulse t.freeCount with freeCount := t.freeCount + 1 }
  (if first then (s.testPulse .a0).takeSlip .a0 true else (s.takeSlip .a0 true).testPulse .a0).conclude .a0

/-- Axis 0 just released, its pulse out of tolerance. -/
def releasedLost : State := { on { slipsLost with seq := lossy.seq, page.due := true } with cmd.controller := .loaded }

/-- R105, R110: a slip after the repeated ENCODER_LOST notice waits behind it, and once the page for IDLE is composed the axis
is HELD with ENCODER_LOST, and SLIPPED has joined the later-fault set. -/
theorem test_lossBeforeSlip :
    exec (.indexPulse .a0) releasedLost = .next (pulseTaken (Config.pulseBeforeSlip releasedLost.freeCount) releasedLost)
      ∧ ∀ b, ((pulseTaken b releasedLost).axis .a0).seq.state = .idle
        ∧ (after .arbiterGrant (pulseTaken b releasedLost)).map
            (fun t => ((t.axis .a0).seq.state, (t.axis .a0).seq.heldCause, (t.axis .a0).seq.later)) =
          some (.held, some .encoderLost, FaultKind.slipped.bit) :=
  ⟨rfl, by decide +kernel⟩

/-- A search in mode INDEX that moves, with no measurement and with one in tolerance. -/
theorem witness_IndexPulseQualifies :
    (moved searching).pos.Sound ∧ searching.seq.state = .seeking
      ∧ (issue 3 1 100 5000).selector = 1 ∧ (on (moved searching)).standsStill .a0 = false
      ∧ ({ slipping.pos with span := some ⟨.forward, 17⟩ } : PositionUnit).slips 17 = false := by
  refine ⟨pos_sound _ (moved searching).pos rfl, ?_⟩
  and_intros <;> decide

/-- REF going inactive in a back-off that moves, and REF going active. -/
def backing : AxisUnit :=
  moved { busy .seeking (.search ⟨.forward, .backOff, 0, false⟩) with pos.refLevel := true }

theorem witness_RefLevelHanded :
    backing.pos.refLevel ≠ false ∧ idle.pos.refLevel ≠ true ∧ (on backing).standsStill .a0 = false
      ∧ (after (.refLevelChange .a0 false) (on backing)).map (fun t => (t.axis .a0).seq.state) = some .coasting := by
  decide

/-- A first pair, a second pair, a pair that recovers; a first pair with a repeated notice waiting from before. -/
theorem witness_PairsWatched :
    shaped { lossy with pos := idle.pos } = true ∧ lossy.seq.handed ≠ [] ∧ idle.pos.counting.isSome = true ∧ idle.pos.pairs.lost = false ∧ shaped idle = true
      ∧ (⟨false, true, false⟩ : PairStates).get .a = false ∧ (⟨false, true, false⟩ : PairStates).lost = true
      ∧ (⟨false, true, false⟩ : PairStates).get .b = true := by decide

/-! ### Standstill and timers -/

/-- An axis whose settle time has passed to the millisecond. -/
def resting (u : AxisUnit) : AxisUnit := { u with pos.lastChange := 980 }

theorem restDue_on {u : AxisUnit} (h : u.pos = idle.pos) : (on (resting u)).RestDue .a0 := by
  refine ⟨⟨20, 500, false, 0, 0⟩, ?_, ?_, ?_⟩ <;> simp [on, resting, State.axis, PerAxis.get, h, idle, PositionUnit.reset]

/-- STOPPING with a held cause, without one, and with an ABORT_AXIS pending. -/
theorem witness_StandstillEndsStopping :
    (on (resting (stopping (some .aborted)))).RestDue .a0 ∧ shaped (resting (stopping (some .aborted))) = true
      ∧ shaped (resting (stopping none)) = true ∧ (stopping none).pos.pairs.lost = false
      ∧ shaped { resting (stopping none) with pos.pairs.z := true } = true
      ∧ (stopping none).seq.stoppingOutcome = some .abandoned :=
  ⟨restDue_on rfl, by and_intros <;> decide⟩

/-- A COASTING axis on its leg, at position p. -/
def coasting (role : LegRole) (p : Word) (plan : List PlannedLeg) : AxisUnit :=
  resting { busy .coasting (.move ⟨5000, some { leg with role := role, togo := 10 }, plan⟩) with pos.raw := p }

/-- An axis that last drove in REVERSE, with its reversal clear flag clear. -/
def reversed (u : AxisUnit) : AxisUnit := { u with drive := { idle.drive with lastDir := some .reverse } }

/-- The coast end of a FINAL leg at the window and one count beyond it. -/
theorem witness_StandstillEndsFinalLeg :
    (on (coasting .final 4995 [])).RestDue .a0 ∧ (∀ n, ((on (coasting .final 4995 [])).axis n).Shaped)
      ∧ sec.kind.distance ((coasting .final 4995 []).pos.reportedInt) 5000 = 5
      ∧ sec.kind.distance ((coasting .final 4994 []).pos.reportedInt) 5000 = 6
      ∧ sec.takesUp .forward = none ∧ { sec with side := some .reverse }.takesUp .forward = some .reverse
      ∧ sec.withinLimits (sec.takeUpPoint 99970 .forward) = true
      ∧ sec.withinLimits (sec.takeUpPoint 99971 .forward) = false
      ∧ sec.kind.correctionDirection (coasting .final 4994 []).pos.reportedInt 5000 = .forward
      ∧ shaped (reversed (coasting .final 4994 [])) = true ∧ (reversed (coasting .final 4994 [])).drive.needsPause .forward = true
      ∧ (reversed (coasting .final 4994 [])).drive.pause ≠ 0 := by
  refine ⟨⟨⟨20, 500, false, 0, 0⟩, rfl, rfl, by decide⟩, on_shaped (by decide), ?_⟩
  and_intros <;> decide

theorem test_standstill : (after (.standstillReached .a0) (on (coasting .final 4995 []))).map
      (fun t => ((t.axis .a0).seq.state, (t.axis .a0).route.closure.map fun w => w.entry.outcome)) =
    some (.idle, some .reached) := by decide

/-- A COASTING axis at position p on a TAKE_UP leg that coasted over its slack: the FINAL leg is cut at once. -/
def coastedFar (p : Word) : AxisUnit :=
  { coasting .takeUp p [] with
    seq := { (busy .coasting moving).seq with
      executing := some (executing (issue 1 0 5000 0)
        (.move ⟨5000, some { leg with role := .takeUp, togo := 30 }, [⟨.final, .first, .reverse, 5000⟩]⟩)) } }

/-- A correction that needs a reversal pause waits in PAUSING, after a FINAL leg that coasted and after one cut at once; one
that needs none goes to CREEP. -/
theorem test_correctionPauses :
    let next (u : AxisUnit) := (after (.standstillReached .a0) (on u)).map fun t => (t.axis .a0).seq.state
    next (reversed (coasting .final 4994 [])) = some .pausing ∧ next (coasting .final 4994 []) = some .creep
      ∧ next (reversed (coastedFar 4994)) = some .pausing ∧ next (coastedFar 4994) = some .creep := by decide

/-- The coast ends of a TAKE_UP leg, of a qualified search and of a back-off. -/
theorem witness_StandstillGoesOn :
    (on (coasting .takeUp 5030 [⟨.final, .first, .reverse, 5000⟩])).RestDue .a0
      ∧ shaped (coasting .takeUp 5030 [⟨.final, .first, .reverse, 5000⟩]) = true ∧ 0 < (sec.slack : Int) - 10
      ∧ shaped (coasting .takeUp 5004 [⟨.final, .first, .reverse, 5000⟩]) = true ∧ (sec.slack : Int) - 30 ≤ 0
      ∧ sec.kind.distance (coasting .takeUp 5004 []).pos.reportedInt 5000 = 4
      ∧ sec.kind.distance (coasting .takeUp 5006 []).pos.reportedInt 5000 = 6
      ∧ shaped (resting (busy .coasting (.search ⟨.forward, .search, 0, true⟩))) = true
      ∧ shaped (resting (busy .coasting (.search ⟨.forward, .backOff, 0, false⟩))) = true
      ∧ pausing.drive.needsPause .forward = true ∧ pausing.drive.pause ≠ 0 ∧ idle.drive.needsPause .forward = false := by
  refine ⟨⟨⟨20, 500, false, 0, 0⟩, rfl, rfl, by decide⟩, ?_⟩
  and_intros <;> decide

/-- A TAKE_UP leg that coasted to within the window of the target: the FINAL leg is cut at once, counts as driven, and the
record closes REACHED in the event. -/
theorem test_finalLegCutAtOnce :
    (after (.standstillReached .a0) (on (coastedFar 5004))).map
        (fun t => ((t.axis .a0).seq.state, (t.axis .a0).route.closure.map fun w => (w.entry.outcome, w.entry.legByte))) =
      some (.idle, some (.reached, legByte 0 2)) := by decide

/-- A stall watch and a move time limit that run out to the millisecond. -/
theorem witness_WatchdogsStop :
    shaped { busy .creep moving with pos.stallStart := some 500 } = true ∧ (500 : Nat) ≤ ((1000 : Word) - 500).toNat
      ∧ AxisState.creep.driving = true ∧ AxisState.coasting.inMotion = true
      ∧ ((1000 : Word) - 900).toNat ≤ ((1000 : Word) - 900).toNat := by decide

/-- A dwell and a wait that end to the millisecond; an announcement at the bounds of "at or after". -/
theorem witness_WaitsEnd :
    shaped dwelling = true ∧ shaped awaiting = true ∧ dwelling.pos.pairs.lost = false
      ∧ ((1000 : Word) - 900).toNat ≤ ((on dwelling).timeBase - 900).toNat ∧ ((0x20 : Stamp) - 0x20).toNat < 32768
      ∧ ((0x801F : Stamp) - 0x20).toNat < 32768 ∧ 32768 ≤ ((0x1F : Stamp) - 0x20).toNat
      ∧ 32768 ≤ ((0x8020 : Stamp) - 0x20).toNat := by decide

/-- A patrol timer and a report timer that run out to the millisecond; a patrol while a fetch is under way. -/
theorem witness_IntervalTimersExpire :
    (on idle).setup = some setup ∧ setup.patrol ≤ ((1000 : Word) - 900).toNat ∧ setup.report ≤ ((1000 : Word) - 750).toNat
      ∧ (on idle).sectionOf .a0 = some sec ∧ (on idle).routeFree .a0 = true
      ∧ (during (on idle) (.route .a0 .fetch)).fetchReady .a0 = false := by decide

theorem witness_PauseElapses :
    prof.cut ≤ prof.slow ∧ { leg with togo := 401 }.zone = (.rapid, 40)
      ∧ { leg with togo := 401, cls := .correction }.zone = (.creep, 40) ∧ { leg with togo := 400 }.zone = (.creep, 40)
      ∧ { leg with togo := 41 }.zone = (.creep, 40) ∧ { leg with togo := 40 }.zone = (.creep, 0)
      ∧ pausing.drive.restStart = some 850 ∧ pausing.drive.revClear = false
      ∧ pausing.drive.pause ≤ ((on pausing).timeBase - 850).toNat ∧ pausing.drive.running = none
      ∧ (on pausing).xstopHigh = true ∧ pausing.drive.mode = .split ∧ 0 < leg.togo
      ∧ ({ pausing with seq := (busy .creep moving).seq } : AxisUnit).seq.request = some (.forward, false)
      ∧ ({ leg with togo := 0 } : Leg).togo ≤ 0 ∧ ({ idle.drive with mode := .steer } : DriveStage).runRev ≠ true
      ∧ (busy .pausing seeking).seq.executing.map Executing.work = some seeking := by decide

/-- A PAUSING axis with another state of its kind. -/
def pausingFor (k : KindState) : AxisUnit := { pausing with seq := (busy .pausing k).seq }

/-- The end of a pause: a search passes to SEEKING, a back-off with REF inactive is cut at once, a leg with no distance to go
is cut at once, a STEER axis changes its direction line and waits for the setup time. -/
theorem test_pauseEnds :
    (after (.pauseElapsed .a0) (on (pausingFor seeking))).map (fun t => (t.axis .a0).seq.state) = some .seeking
      ∧ (after (.pauseElapsed .a0) (on (moved (pausingFor (.search ⟨.reverse, .backOff, 0, false⟩))))).map
          (fun t => (t.axis .a0).seq.state) = some .coasting
      ∧ (after (.pauseElapsed .a0) (on (moved (pausingFor (.move ⟨5000, some { leg with togo := 0 }, []⟩))))).map
          (fun t => (t.axis .a0).seq.state) = some .coasting
      ∧ (after (.pauseElapsed .a0) (on { pausing with drive := { pausing.drive with mode := .steer, runRev := true } })).map
          (fun t => ((t.axis .a0).drive.running, (t.axis .a0).drive.runRev, (t.axis .a0).drive.dirSetup)) =
        some (none, false, true) := by decide

theorem test_pauseElapsed : (after (.pauseElapsed .a0) (on pausing)).map
      (fun t => ((t.axis .a0).seq.state, (t.axis .a0).drive.running)) = some (.rapid, some .forward) := by decide

/-- A drive stage in STEER mode in its setup time, at the direction line for a reverse run. -/
def steering : DriveStage := { idle.drive with mode := .steer, dirSetup := true, runRev := true }

/-- A STEER axis whose setup time, or hold time, runs: with a request for either direction, without one, PAUSING with its pause
over and not over, with a line that STEER mode has left, and with a run line active. -/
theorem witness_DirectionTimesElapse :
    let u (d : Direction) (v : DriveStage) : AxisUnit :=
      { busy .creep (.move ⟨5000, some { leg with direction := d }, []⟩) with drive := v }
    let lines (c : Instr) (v : AxisUnit) := (after c (on v)).map fun t =>
      ((t.axis .a0).drive.running, (t.axis .a0).drive.runRev, (t.axis .a0).drive.dirSetup, (t.axis .a0).drive.dirHold)
    (u .reverse steering).seq.request = some (.reverse, false) ∧ steering.needsPause .reverse = false ∧ steering.running = none
      ∧ lines (.directionSetupElapsed .a0) (u .reverse steering) = some (some .reverse, true, false, false)
      ∧ lines (.directionSetupElapsed .a0) (u .forward steering) = some (none, false, true, false)
      ∧ lines (.directionSetupElapsed .a0) (u .forward { steering with dirHold := true }) = some (none, true, false, true)
      ∧ lines (.directionSetupElapsed .a0) { idle with drive := steering } = some (none, true, false, false)
      ∧ lines (.directionSetupElapsed .a0)
          { pausing with drive := { steering with runRev := false, lastDir := some .reverse, revClear := true } } =
        some (some .forward, false, false, false)
      ∧ (on { pausing with drive := { steering with lastDir := some .reverse } }).PauseHolds .a0
      ∧ lines (.directionHoldElapsed .a0) (u .forward { idle.drive with dirHold := true, dirDrop := true, runRev := true }) =
        some (some .forward, false, false, false)
      ∧ lines (.directionHoldElapsed .a0) (u .forward { steering with dirSetup := false, dirHold := true }) =
        some (none, false, true, false)
      ∧ lines (.directionHoldElapsed .a0) (u .forward { steering with dirSetup := false, dirHold := true, dirDrop := true }) =
        some (none, false, true, false)
      ∧ lines (.directionHoldElapsed .a0) { idle with drive := { steering with dirSetup := false, dirHold := true, dirDrop := true } } =
        some (none, false, true, false)
      ∧ lines (.directionHoldElapsed .a0) (u .forward { idle.drive with runFwd := true, lastDir := some .forward, dirHold := true }) =
        some (some .forward, false, false, false) := by
  and_intros <;> first | decide | (unfold State.PauseHolds; decide)

/-- Log 31: a SPLIT run wanted during the hold time of a direction line that STEER mode left: it waits where the line was left
active, and becomes active at once where it was left inactive. -/
theorem test_splitAfterSteer :
    let left (level : Bool) : DriveStage :=
      { ({ idle.drive with mode := .steer, runRev := level, dirHold := true }).dropDirection with mode := .split }
    (∀ d, ((left true).follow (some (d, false))).running = none)
      ∧ (∀ d, ((left true).endHold.follow (some (d, false))).running = some d)
      ∧ (left false).dirHold = true ∧ (∀ d, ((left false).follow (some (d, false))).running = some d)
      ∧ (∀ d, ((left false).follow (some (d, false))).endHold.running = some d) := by
  and_intros <;> first | decide | (intro d; cases d <;> decide)

/-- Log 35: a commit back to STEER mode while the hold time of the former direction line runs: a reverse run becomes active at
once; a forward run finds the line inactive after the hold time, and waits for the setup time. -/
theorem test_steerAgain :
    let v := { idle.drive with mode := .steer, runRev := true, dirHold := true, dirDrop := true }
    (v.follow (some (.reverse, false))).running = some .reverse ∧ (v.follow (some (.reverse, false))).dirDrop = false
      ∧ (v.follow (some (.forward, false))).running = none ∧ (v.endHold.follow (some (.forward, false))).running = none
      ∧ v.endHold.runRev = false ∧ v.endHold.dirSetup = true
      ∧ ({ v.endHold with dirSetup := false }.follow (some (.forward, false))).running = some .forward := by decide

/-- A halt with the last report under way, and with a report that does not complete it. -/
theorem witness_SettledReportTaken :
    (∀ m, m ≠ AxisId.a1 → (⟨true, false, true, true⟩ : PerAxis Bool).get m = true)
      ∧ (⟨[], [true], [], []⟩ : PerAxis (List Bool)).get .a1 = true :: []
      ∧ (⟨false, false, true, true⟩ : PerAxis Bool).get .a0 = false := by
  refine ⟨fun m h => ?_, by decide, by decide⟩
  cases m <;> first | rfl | exact absurd rfl h

/-! ### The memory port -/

/-- The aperture check at the bounds of an entry, in an open, a closed, a read-only and no entry. -/
theorem witness_ApertureTests :
    (on idle).setup = some setup ∧ openAll.holds 0x1000 20 = true ∧ openAll.holds 0xFFEC 20 = true
      ∧ openAll.holds 0xFFED 20 = false ∧ readOnly.holds 0x20000 20 = true
      ∧ (∀ i : EntryId, (setup.apertures.get i).holds 0xFF0 20 = false)
      ∧ (∀ j : EntryId, j ≠ .e0 → (setup.apertures.get j).holds 0x1000 20 = false)
      ∧ (on idle).apertureOpen.get .e0 = true ∧ (on idle).apertureOpen.get .e1 = false := by
  have other : ∀ j : EntryId, j ≠ .e0 → (setup.apertures.get j).holds 0x1000 20 = false := fun j h => by
    cases j <;> first | decide | exact absurd rfl h
  and_intros <;> first | decide | exact other | (intro i; cases i <;> decide)

/-- A free port with the loader's request, and with a request of the last requester in the ring. -/
theorem witness_GrantFollowsRing :
    let ring : List Requester := [.loader, .route .a0, .route .a1, .route .a2, .route .a3, .reporter]
    let s := { on idle with port.chunk := some 15 }
    s.port.access = none ∧ ring[5]? = some s.port.pointer ∧ ring[(5 + 1) % 6]? = some .loader ∧ s.hasRequest .loader = true
      ∧ (∀ j < 6, s.hasRequest (ring.getD j .loader) = (j == 0)) ∧ ring[(0 + 6) % 6]? = some .loader := by decide

/-- The ring from route unit 1 (R141), a request of every requester waiting: the reporter's comes after route unit 3's. -/
theorem test_ring :
    let s := { on { idle with page.due := true } with
      port.chunk := some 15, port.pointer := .route .a1
      port.waiting := ⟨some ⟨.fetch, 0x1000, []⟩, none, none, some ⟨.fetch, 0x1000, []⟩⟩ }
    s.nextRequester = some (.route .a3)
      ∧ { s with port.pointer := .route .a3 }.nextRequester = some .reporter
      ∧ { s with port.pointer := .reporter }.nextRequester = some .loader
      ∧ { s with port.pointer := .loader }.nextRequester = some (.route .a0) := by decide

/-- A route unit's request that passes, one that is refused, and the requests of each kind that the statement names. -/
def asking (k : RouteAccess) (a : Word) : State := { on idle with port.waiting.a0 := some ⟨k, a, []⟩ }

theorem witness_GrantRouteAccess :
    (asking .fetch 0x1000).nextRequester = some (.route .a0)
      ∧ (asking .fetch 0x1000).checkAperture 0x1000 20 false = .ok .e0
      ∧ (asking .fetch 0xFFED).checkAperture 0xFFED 20 false = .error ⟨.outside, some .e0⟩
      ∧ (asking .fetch 0x20000).checkAperture 0x20000 20 false = .error ⟨.closed, some .e1⟩
      ∧ shaped { idle with route.target := some ⟨0, 0x20⟩ } = true
      ∧ shaped { idle with seq.executing := some (executing (issue 1 0 0 0) .verifying) } = true
      ∧ shaped { idle with route.closure := some ⟨entry, .write⟩ } = true
      ∧ shaped { held with seq.latch := some entry, seq.delivery := some .reread } = true := by
  and_intros <;> rfl

/-- A due page that passes the check, and one that a closed entry refuses; one after which a notice is taken. -/
theorem witness_GrantComposesPage :
    shaped lossy = true ∧ lossy.seq.handed ≠ [] ∧ (on lossy).nextPage = some .a0 ∧
    let s := on { idle with page.due := true }
    s.port.access = none ∧ s.nextRequester = some .reporter ∧ s.nextPage = some .a0 ∧ s.setup = some setup
      ∧ setup.sections.get .a0 = some sec ∧ s.checkAperture 0x8000 64 true = .ok .e0
      ∧ { s with apertureOpen := ⟨false, false, false, false, false, false⟩ }.checkAperture 0x8000 64 true =
          .error ⟨.closed, some .e0⟩
      ∧ (s.axis .a0).Shaped :=
  by and_intros <;> first | rfl | decide | exact shaped_of (u := { idle with page.due := true }) (by decide)

/-- The sixteen words of a page, written out from the table of 11.3: axis 0 STOPPING with stamps 0x21 and a held cause, and
HELD with a latched outcome. -/
theorem test_pageWords :
    let r : RouteUnit := { idle.route with expected := 0x21, dry := true }
    let p : PositionUnit := { idle.pos with raw := 100, shift := 0xFFFFFFFD, lastSpan := 4000 }
    let g : PageUnit := ⟨7, false, false, 0xABCD, 0x001F, 0x12, true⟩
    ({ stopping (some .aborted) with route := r, pos := p, page := g, seq.later := 0x0081 } : AxisUnit).pageWords 1000 =
        [7, 0x00050109, 97, 100, 0xFFFFFFFD, 0x00200021, 0x0081000B, 4000, 1000, 0xABCD, 0x0012001F, 0, 0, 0, 0, 7]
      ∧ ({ held with seq.latch := some entry, pos.referenced := false } : AxisUnit).pageWords 1000 =
        [0, 0x0001000A, 0, 0, 0, 0x00000020, 4, 0, 1000, 0, 0, 0, 0, 0, 0, 0]
      ∧ ({ staged with pos.counting := some ⟨.x4, .rotary 16⟩, pos.shift := 0xFFFFFFFD } : AxisUnit).pageWords 1000 =
        [0, 0x01000101, 13, 0, 0xFFFFFFFD, 0x00000020, 0, 0, 1000, 0, 0, 0, 0, 0, 0, 0] := by decide

/-- A grant that drives an access. -/
theorem witness_GrantsStayInApertures :
    (asking .fetch 0x1000).port.access = none
      ∧ (after .arbiterGrant (asking .fetch 0x1000)).map (fun t => t.port.access.map fun a => a.transfers.length) =
          some (some 5) := by decide

/-- An access in progress of each kind, and one whose answer is dropped. -/
theorem witness_TimeoutIsBusError :
    ∀ k ∈ [AccessKind.chunk 15, .page .a0, .route .a0 .fetch, .route .a0 .deliveryWrite],
      (during run k).port.access = some ⟨k, some .e0, [], false⟩ := by decide

/-! ### The ends of accesses -/

/-- The state with an access of the kind given in progress whose answer a reset has dropped. -/
def orphaned (s : State) (k : AccessKind) : State := { s with port.access := some ⟨k, some .e0, [], true⟩ }

/-- R25, R148: the end of an access that a reset has dropped frees the port, and leaves every block as it is. -/
theorem test_droppedAccess :
    after (.fetchEnd .a0 (.data (issue 1 0 0 0))) (orphaned (on idle) (.route .a0 .fetch)) = some (on idle)
      ∧ after (.deliveryWriteEnd .a1 .busError) (orphaned run (.route .a1 .deliveryWrite)) = some run
      ∧ after (.pageWriteEnd .acknowledged) (orphaned run (.page .a2)) = some run
      ∧ after (.setupChunkEnd .busError) (orphaned .reset (.chunk 15)) = some .reset := by
  and_intros <;> rfl

/-- A fetch in progress: for the head, for a second record, voided; DRY, the notice latch, a HELD axis. -/
theorem witness_FetchEnds :
    let u := { idle with route.target := some ⟨0, 0x20⟩ }
    let s := during (on u) (.route .a0 .fetch)
    s.setup = some setup ∧ setup.sections.get .a0 = some sec ∧ shaped u = true ∧ u.seq.state ≠ .pausing
      ∧ (issue 1 0 0 0).stamp = 0x20 ∧ { issue 1 0 0 0 with w0 := 0x1001F }.stamp ≠ 0x20
      ∧ s.cmd.controller = .running ∧ s.port.waiting.get .a0 = none ∧ setup.dryNotify.getLsbD AxisId.a0.toNat = true
      ∧ (busy .rapid moving).seq.state.inMotion = true
      ∧ shaped { busy .rapid moving with route.target := some ⟨1, 0x21⟩, route.noticeLatch := true } = true
      ∧ shaped held = true ∧ shaped { lossy with route.target := some ⟨0, 0x20⟩ } = true ∧ lossy.seq.handed ≠ []
      ∧ shaped { idle with route.target := some ⟨0, 0x20⟩, route.closure := some ⟨entry, .reread⟩ } = true
      ∧ shaped { idle with
          route.target := some ⟨1, 0x21⟩, seq.executing := some (executing (issue 1 0 0 0) .verifying) } = true
      ∧ shaped { pausing with route.target := some ⟨1, 0x21⟩ } = true
      ∧ (((on (moved { pausing with drive.restStart := none })).evalDrive .a0).axis .a0).pauseOver = false
      ∧ (∀ w ∈ [idle, dwelling, awaiting],
          shaped { w with route.target := some ⟨1, 0x21⟩, route.noticeLatch := true } = true
            ∧ w.seq.verifying = false ∧ w.route.closure = none ∧ w.route.staging = []) := by
  and_intros <;> decide

/-- The target and the notice latch after a fetch of stamp 0x20 that read another stamp (R9), or that was voided. -/
def afterFetch (u : AxisUnit) : Option (Option FetchTarget × Bool × Bool) :=
  (after (.fetchEnd .a0 (.data { issue 1 0 0 0 with w0 := 0x1001F })) (during (on u) (.route .a0 .fetch))).map
    fun t => ((t.axis .a0).route.target, (t.axis .a0).route.noticeLatch, (t.axis .a0).route.dry)

/-- R9: an unpublished fetch with the notice latch set is made again in IDLE, DWELLING and AWAITING; R10: the answer to a
voided fetch is dropped, and an IDLE axis makes its fetch anew. -/
theorem test_fetchAgain :
    afterFetch { idle with route.target := some ⟨0, 0x20⟩, route.noticeLatch := true } = some (some ⟨0, 0x20⟩, false, false)
      ∧ afterFetch { dwelling with route.target := some ⟨1, 0x21⟩, route.noticeLatch := true } =
          some (some ⟨1, 0x21⟩, false, false)
      ∧ afterFetch { awaiting with route.target := some ⟨1, 0x21⟩, route.noticeLatch := true } =
          some (some ⟨1, 0x21⟩, false, false)
      ∧ afterFetch idle = some (some ⟨0, 0x20⟩, false, false)
      ∧ afterFetch { idle with route.target := some ⟨0, 0x20⟩ } = some (none, false, true) := by
  and_intros <;> decide

/-- R110: a record fetched while a repeated ENCODER_LOST notice waits for the page is staged, and does not start. -/
theorem test_lossWithholdsRecord :
    (after (.fetchEnd .a0 (.data (issue 1 0 0 0)))
        (during (on { lossy with route.target := some ⟨0, 0x20⟩ }) (.route .a0 .fetch))).map
      (fun t => ((t.axis .a0).seq.state, (t.axis .a0).route.staging.length, (t.axis .a0).seq.executing)) =
    some (.idle, 1, none) := by decide

/-- R8: a record published while closure work is outstanding on an IDLE axis is staged, and the closure's re-read follows. -/
theorem test_fetchBeforeClosure :
    (after (.fetchEnd .a0 (.data (issue 1 0 0 0)))
        (during (on { idle with route.target := some ⟨0, 0x20⟩, route.closure := some ⟨entry, .reread⟩ }) (.route .a0 .fetch))).map
      (fun t => ((t.axis .a0).route.staging.length, (t.axis .a0).seq.executing, t.port.waiting.a0)) =
    some (1, none, some ⟨.closureReread, 0x1000, []⟩) := by decide

theorem test_fetchEnd : (after (.fetchEnd .a0 (.data (issue 1 0 0 0)))
      (during (on { idle with route.target := some ⟨0, 0x20⟩ }) (.route .a0 .fetch))).map
      (fun t => ((t.axis .a0).seq.executing.map fun x => x.work, t.port.waiting.a0)) =
    some (some .verifying, some ⟨.verification, 0x1000, []⟩) := by decide

/-- An axis with a record under verification. -/
def verifying (r : IssueRegion) : AxisUnit := { idle with seq.executing := some (executing r .verifying) }

/-- The state at the end of a verification re-read of a record. -/
def checking (r : IssueRegion) : State := during (on (verifying r)) (.route .a0 .verification)

/-- A move under verification on an axis that is not referenced. -/
def unreferenced : State := during (on { verifying (issue 1 0 0 0) with pos.referenced := false }) (.route .a0 .verification)

/-- A record that validation rejects at each of its five checks, and a re-read that differs in one bit. -/
theorem witness_VerificationEnds :
    shaped (verifying (issue 1 0 0 0)) = true ∧ (checking (issue 1 0 0 0)).sectionOf .a0 = some sec
      ∧ (checking (issue 0 0 0 0)).validate .a0 sec (issue 0 0 0 0) = some .rejectedKind
      ∧ (checking (issue 8 0 0 0)).validate .a0 sec (issue 8 0 0 0) = some .rejectedKind
      ∧ (checking (issue 1 8 0 0)).validate .a0 sec (issue 1 8 0 0) = some .rejectedProfile
      ∧ (checking (issue 5 0 0 0)).validate .a0 sec (issue 5 0 0 0) = some .rejectedArgument
      ∧ (checking (issue 1 0 100001 0)).validate .a0 sec (issue 1 0 100001 0) = some .rejectedRange
      ∧ unreferenced.sectionOf .a0 = some sec ∧ shaped (unreferenced.axis .a0) = true
      ∧ unreferenced.validate .a0 sec (issue 1 0 0 0) = some .rejectedUnreferenced
      ∧ FirstFailure (unreferenced.recordChecks .a0 sec (issue 1 0 0 0)) .rejectedUnreferenced
      ∧ issue 1 0 0 1 ≠ issue 1 0 0 0 ∧ idle.seq.verifying = false ∧ (on idle).PauseHolds .a0
      ∧ ¬ (during (on idle) (.route .a0 .verification)).TakesHead .a0 := by
  and_intros <;> try decide
  on_goal 2 => rfl
  on_goal 2 => exact fun h => absurd rfl h.2.2.2.2.2
  refine ⟨_, _, _, rfl (a := [_, _, _] ++ (_, _) :: [_]), ⟨.inl rfl, rfl⟩, fun q h => ?_⟩
  simp only [List.mem_cons, List.not_mem_nil, or_false] at h
  obtain rfl | rfl | rfl := h
  · decide
  · decide
  · rintro (h | h | h | h | h | h)
    · exact h.2.1 rfl
    all_goals exact absurd h.1 (by decide)

theorem test_tornStart : (after (.verificationRereadEnd .a0 (.data (issue 1 0 0 1))) (checking (issue 1 0 0 0))).map
      (fun t => ((t.axis .a0).seq.heldCause, (t.axis .a0).route.expected, (t.axis .a0).page.tornSeen)) =
    some (some .tornSlot, 0x21, true) := by decide

/-- R17, R48: a torn slot of axis 0 is announced to axis 1, which waits for it. -/
theorem test_tornAnnounced :
    let waits := executing (issue 6 0 0x20 0) (.await ⟨.a0, 0x20, none, []⟩)
    let s := { checking (issue 1 0 0 0) with axes.a1 := { idle with seq.state := .awaiting, seq.executing := some waits } }
    (after (.verificationRereadEnd .a0 (.data (issue 1 0 0 1))) s).map (fun t => (t.axis .a1).seq.executing) =
      some (some { waits with work := .await ⟨.a0, 0x20, none, [0x20]⟩ }) := by decide

/-- Each record that closes at its start: SET_SHIFT, SOFT, RETUNE, a satisfied AWAIT, a move within its window. -/
theorem witness_RecordsCloseAtStart :
    (verifying (issue 4 0 5 0)).pos.Sound ∧ (verifying (issue 4 0 5 0)).pos.counting.map Counting.kind = some sec.kind
      ∧ (verifying (issue 4 0 5 0)).pos.pairs.lost = false
      ∧ (checking (issue 4 0 5 0)).validate .a0 sec (issue 4 0 5 0) = none
      ∧ (checking (issue 3 2 0xFFFFFFFF 0)).validate .a0 sec (issue 3 2 0xFFFFFFFF 0) = none
      ∧ (checking (issue 7 7 0 3000)).validate .a0 sec (issue 7 7 0 3000) = none
      ∧ (checking (issue 7 7 1 0)).validate .a0 sec (issue 7 7 1 0) = none
      ∧ (checking (issue 7 7 2 9)).validate .a0 sec (issue 7 7 2 9) = none
      ∧ (checking (issue 7 7 3 3)).validate .a0 sec (issue 7 7 3 3) = none
      ∧ (checking (issue 6 1 0x1F 0)).validate .a0 sec (issue 6 1 0x1F 0) = none
      ∧ ((((checking (issue 6 1 0x1F 0)).axis .a1).route.expected - 1) - (issue 6 1 0x1F 0).awaitStamp).toNat < 32768
      ∧ (checking (issue 1 0 5 0)).validate .a0 sec (issue 1 0 5 0) = none
      ∧ (checking (issue 1 0 5 0)).standsStill .a0 = true
      ∧ sec.kind.distance 0 5 ≤ (((checking (issue 1 0 5 0)).profile 0).window : Int) := by
  refine ⟨pos_sound _ idle.pos rfl, ?_⟩
  and_intros <;> decide

theorem test_setShift : (after (.verificationRereadEnd .a0 (.data (issue 4 0 5 0))) (checking (issue 4 0 5 0))).map
      (fun t => ((t.axis .a0).pos.shift, (t.axis .a0).seq.state, (t.axis .a0).route.expected)) =
    some (5, .idle, 0x21) := by decide

/-- A reference record in direction FORWARD (options 0x10). -/
def seek (mode : Word) : IssueRegion := { issue 3 mode 0 1000 with w0 := 0x10030020 }

/-- Axis 0 as a rotary axis of 16 counts, with approach side FORWARD and a slack of 30 counts. -/
def turn : Section := { sec with kind := .rotary 16, side := some .forward }

/-- R42 to R44, R87, R95, R96 on a rotary axis: from 2 both ways to 10 are 8 counts, and SHORTEST goes FORWARD; where the
distance is 0 the approach side decides; targets and take-up points are taken modulo M. On a linear axis the target may lie on
either side of the position, and equal it. -/
theorem witness_PlansOfMoves :
    turn.kind = .rotary 16 ∧ (10 - 2 : Int) % 16 = (2 - 10) % 16 ∧ 2 * ((10 - 2 : Int) % 16) = 16
      ∧ turn.moveDirection .moveTo 0 10 2 = .forward ∧ turn.moveTravel .moveTo .forward 10 2 = 8
      ∧ turn.moveDirection .moveTo 0 9 2 = .forward ∧ turn.moveDirection .moveTo 0 11 2 = .reverse
      ∧ turn.moveTravel .moveTo .reverse 11 2 = 7 ∧ turn.moveDirection .moveTo 0 2 2 = .forward
      ∧ { turn with side := some .reverse }.moveDirection .moveTo 0 2 2 = .reverse
      ∧ turn.moveTarget .moveBy 15 2 = 1 ∧ turn.moveTarget .moveBy (-3) 2 = 15
      ∧ turn.kind.distance 2 10 = 8 ∧ turn.kind.distance 15 2 = 3 ∧ turn.kind.correctionDirection 2 10 = .forward
      ∧ turn.kind.correctionDirection 2 11 = .reverse ∧ turn.takeUpPoint 10 .forward = 8 ∧ turn.takeUpPoint 10 .reverse = 12
      ∧ turn.takesUp .reverse = some .forward ∧ turn.takesUp .forward = none
      ∧ sec.moveDirection .moveTo 2 5 9 = .reverse ∧ sec.moveDirection .moveTo 2 9 9 = .forward
      ∧ sec.moveTravel .moveTo .reverse 5 9 = 4 ∧ sec.moveTarget .moveBy (-4) 9 = 5
      ∧ sec.moveDirection .moveBy 0 (-4) 9 = .reverse ∧ sec.moveTravel .moveBy .reverse (-4) 9 = 4 := by
  and_intros <;> decide

/-- A state in which axis 0 is rotary, at position 2, with a record of its route under verification. -/
def turning (r : IssueRegion) : State :=
  { during (on { verifying r with pos.counting := some ⟨.x4, .rotary 16⟩, pos.raw := 2 }) (.route .a0 .verification) with
    setup := some { setup with sections.a0 := some turn } }

/-- A SHORTEST move over half a turn drives FORWARD for 8 counts; one of 7 counts REVERSE has a take-up leg of 7 + 30. -/
theorem test_shortestMove :
    (after (.verificationRereadEnd .a0 (.data (issue 1 0 10 0))) (turning (issue 1 0 10 0))).map
        (fun t => ((t.axis .a0).drive.running, (t.axis .a0).seq.executing.map fun x => x.work)) =
      some (some .forward, some (.move ⟨10, some ⟨.final, .first, .forward, 10, 8, prof, some 0⟩, []⟩))
      ∧ (after (.verificationRereadEnd .a0 (.data (issue 1 0 11 0))) (turning (issue 1 0 11 0))).map
        (fun t => ((t.axis .a0).drive.running, (t.axis .a0).seq.executing.map fun x => x.work)) =
      some (some .reverse,
        some (.move ⟨11, some ⟨.takeUp, .first, .reverse, 13, 37, prof, some 0⟩, [⟨.final, .first, .forward, 11⟩]⟩)) := by
  decide

/-- Each record that starts: DWELL at its bounds, an AWAIT, a move beyond its window, both kinds of search. -/
theorem witness_RecordsStart :
    (checking (issue 5 0 1 0)).validate .a0 sec (issue 5 0 1 0) = none
      ∧ (checking (issue 5 0 65535 0)).validate .a0 sec (issue 5 0 65535 0) = none
      ∧ (checking (issue 6 1 0x20 100)).validate .a0 sec (issue 6 1 0x20 100) = none
      ∧ 32768 ≤ ((((checking (issue 6 1 0x20 0)).axis .a1).route.expected - 1) - (issue 6 1 0x20 0).awaitStamp).toNat
      ∧ (checking (issue 1 0 6 0)).validate .a0 sec (issue 1 0 6 0) = none
      ∧ (prof.window : Int) < sec.kind.distance 0 6 ∧ 0 < sec.moveTravel .moveTo .forward 6 0
      ∧ (checking (seek 0)).validate .a0 sec (seek 0) = none ∧ (checking (seek 1)).validate .a0 sec (seek 1) = none
      ∧ (seek 1).directionField = 1 ∧ (seek 1).selector = 1
      ∧ (on (moved idle)).standsStill .a0 = false ∧ sec.kind.distance 0 5 ≤ (prof.window : Int)
      ∧ idle.drive.needsPause .forward = false ∧ pausing.drive.needsPause .forward = true ∧ pausing.drive.pause ≠ 0
      ∧ ¬ 0 < sec.moveTravel .moveTo .forward 0 0 := by
  and_intros <;> decide

/-- A move within its cut point starts CREEP with a cut point of 0; one within its window that does not stand still, with
nothing to go, is cut at once; a reversal pauses first. -/
theorem test_startMove :
    (after (.verificationRereadEnd .a0 (.data (issue 1 0 6 0))) (checking (issue 1 0 6 0))).map
        (fun t => ((t.axis .a0).seq.state, (t.axis .a0).drive.running)) = some (.creep, some .forward)
      ∧ (after (.verificationRereadEnd .a0 (.data (issue 1 0 0 0)))
          (during (on (moved (verifying (issue 1 0 0 0)))) (.route .a0 .verification))).map
          (fun t => (t.axis .a0).seq.state) = some .coasting
      ∧ (after (.verificationRereadEnd .a0 (.data (issue 1 0 6 0)))
          (during (on { verifying (issue 1 0 6 0) with drive := pausing.drive }) (.route .a0 .verification))).map
          (fun t => (t.axis .a0).seq.state) = some .pausing := by decide

/-- A search in mode INDEX on an axis with a time limit of 7 s, and its entry to PAUSING where the drive stage needs a pause. -/
theorem test_searchTimer :
    let s := { checking (seek 1) with setup := some { setup with sections.a0 := some { sec with timeLimit := 70 } } }
    (after (.verificationRereadEnd .a0 (.data (seek 1))) s).map (fun t => ((t.axis .a0).seq.state, (t.axis .a0).seq.moveExpiry)) =
        some (.seeking, some 8000)
      ∧ (after (.verificationRereadEnd .a0 (.data (seek 1)))
          (during (on { verifying (seek 1) with drive := pausing.drive }) (.route .a0 .verification))).map
          (fun t => ((t.axis .a0).seq.state, (t.axis .a0).seq.executing.map fun x => x.legs)) =
        some (.pausing, some 0) := by
  and_intros <;> decide

theorem test_search : (after (.verificationRereadEnd .a0 (.data (seek 1))) (checking (seek 1))).map
      (fun t => ((t.axis .a0).seq.state, (t.axis .a0).pos.referenced, (t.axis .a0).drive.running)) =
    some (.seeking, false, some .forward) := by decide

/-- Closure work in its two phases, on an IDLE and a HELD axis. -/
theorem witness_ClosureWorkEnds :
    shaped { idle with route.closure := some ⟨entry, .reread⟩ } = true
      ∧ shaped { held with route.closure := some ⟨entry, .write⟩ } = true ∧ issue 1 0 5000 1 ≠ entry.record
      ∧ shaped { lossy with route.closure := some ⟨entry, .reread⟩ } = true
      ∧ (on idle).sectionOf .a0 = some sec := by decide

/-- R39, R176: a torn closure and a closure moved into the latch leave the tag of a record with TAG_VALID on the page. -/
theorem test_lastTag :
    let e := { entry with record := { entry.record with w0 := 0x04010020 } }
    let s := during (on { idle with route.closure := some ⟨e, .reread⟩ }) (.route .a0 .closureReread)
    e.record.tagValid = true ∧ entry.record.tagValid = false
      ∧ (after (.closureRereadEnd .a0 (.data entry.record)) s).map (fun t => (t.axis .a0).page.lastTag) = some 7
      ∧ (after (.closureRereadEnd .a0 .busError) s).map (fun t => (t.axis .a0).page.lastTag) = some 7 := by
  and_intros <;> decide

/-- A delivery in its two phases, with the stop line high and low. -/
theorem witness_DeliveryEnds :
    shaped { held with seq.latch := some entry, seq.delivery := some .reread } = true
      ∧ shaped { held with seq.latch := some entry, seq.delivery := some .write } = true ∧ issue 1 0 5000 1 ≠ entry.record
      ∧ (on idle).sectionOf .a0 = some sec ∧ held.pos.pairs.lost = false := by decide

/-- A page write outstanding, with a SNAPSHOT that it answers. -/
theorem witness_PageWriteEnds :
    let s := { during waits (.page .a0) with reporter.writing := some ⟨.a0, true⟩ }
    s.port.access = some ⟨.page .a0, some .e0, [], false⟩ ∧ s.reporter.writing = some ⟨.a0, true⟩
      ∧ (s.axis .a0).Shaped ∧ (s.axis .a0).seq.state ≠ .dormant ∧ s.cmd.result = .pending ∧ s.cmd.lastCode = 0x13
      ∧ s.cmd.pendingIndex = some AxisId.a0.toIndex :=
  ⟨rfl, rfl, shaped_of (u := idle) (by decide), by decide, rfl, rfl, rfl⟩

/-! ### A setup block -/

/-- The setup block of axis 0 with the field given as its settle time, as 128 words. -/
def block (settle : Nat) : List Word :=
  [0x0101, 0, 0, 0, 0, 0, 0, 0, 0x1000, 0xFFFF, 0x100000, 0x0102] ++ List.replicate 52 0
    ++ [0x0400, BitVec.ofNat 32 (256 * settle), 0x9601F4, 0, 0, 0, 100000, 0, 0x1000, 0x200008, 0x8000] ++ List.replicate 53 0

/-- Chunk j of a block. -/
def chunk (ws : List Word) (j : Nat) : SetupChunk :=
  let w := ws.drop (8 * j)
  ⟨w.getD 0 0, w.getD 1 0, w.getD 2 0, w.getD 3 0, w.getD 4 0, w.getD 5 0, w.getD 6 0, w.getD 7 0⟩

/-- LOADING from BLANK with chunks 0 to 14 received. -/
def loading (settle : Nat) : State :=
  { during State.reset (.chunk 15) with
    cmd := { CommandUnit.reset with
      controller := .loading, origin := some .blank, loadAddress := some 0, lastCode := 1, result := .pending,
      pendingIndex := some 0 }
    shadow := some ((List.range 15).map (chunk (block settle))) }

/-- The shadow with a settle time of 0 fails BAD_AXIS for axis 0; the ends of a load and its next chunk. -/
theorem witness_SetupChunksAndFailures :
    (loading 0).port.access = some ⟨.chunk 15, some .e0, [], false⟩ ∧ (loading 0).cmd.controller = .loading
      ∧ (loading 0).cmd.origin = some .blank ∧ (∀ n, ((loading 0).axis n).Shaped)
      ∧ (∀ n, ((loading 0).axis n).seq.state = .dormant)
      ∧ validateShadow (shadowWords ((List.range 15).map (chunk (block 0)) ++ [chunk (block 0) 15])) =
          some (.badAxis, 0) := by
  have shapes : ∀ n, ((loading 0).axis n).Shaped := fun n => shaped_of (by cases n <;> decide)
  have dormant : ∀ n, ((loading 0).axis n).seq.state = .dormant := fun n => by cases n <;> rfl
  and_intros <;> first | assumption | decide

/-- A block whose format byte is 2 fails the first check. -/
theorem test_firstFailure :
    FirstFailure (shadowChecks [0x0102]) (.badFormat, 0) ∧ validateShadow [0x0102] = some (.badFormat, 0)
      ∧ (blockByte (block 1) 0x000).toNat = 1 :=
  ⟨⟨[], _, _, rfl, by decide, fun _ h => nomatch h⟩, by decide, by decide⟩

/-- A bus error ends a load from LOADED; with XSTOP_N low an IDLE axis goes HELD with LINE_STOP. -/
theorem test_failLoad :
    (after (.setupChunkEnd .busError)
        { during (on idle) (.chunk 3) with
          cmd := { (loading 0).cmd with origin := some .loaded }, shadow := some [], xstopHigh := false }).map
        (fun t => (t.cmd.controller, t.cmd.result, t.cmd.detailIndex, (t.axis .a0).seq.heldCause, t.setup == some setup)) =
      some (.loaded, .failedSetup, 3, some .lineStop, true) := by decide

/-- The shadow with a settle time of 1 passes, and its commit enables axis 0. -/
theorem witness_CommitTakesSetup :
    (loading 1).shadow = some ((List.range 15).map (chunk (block 1)))
      ∧ validateShadow (shadowWords ((List.range 15).map (chunk (block 1)) ++ [chunk (block 1) 15])) = none
      ∧ (after (.setupChunkEnd (.data (chunk (block 1) 15))) (loading 1)).map
          (fun t => ((t.axis .a0).seq.state, (t.axis .a0).route.expected, t.cmd.controller, t.cmd.result)) =
        some (.idle, 0x20, .loaded, .done) := by
  refine ⟨by decide, ?_, ?_⟩ <;> decide +kernel

/-- Each timer of axis 0, one millisecond before its reading. -/
theorem witness_TimersBeforeTheirReading :
    idle.pos.params = some ⟨20, 500, false, 0, 0⟩ ∧ ((on idle).timeBase - 981).toNat < 20
      ∧ ((on idle).timeBase - 501).toNat < 500 ∧ ((on idle).timeBase - 900).toNat < ((1001 : Word) - 900).toNat
      ∧ ((on idle).timeBase - 901).toNat < setup.patrol ∧ ((on idle).timeBase - 751).toNat < setup.report
      ∧ ((on idle).timeBase - 851).toNat < idle.drive.pause
      ∧ shaped { busy .rapid moving with pos.stallStart := some 501 } = true
      ∧ shaped (busy .dwelling (.dwell 1001)) = true
      ∧ shaped (busy .awaiting (.await ⟨.a1, 0x20, some 1001, []⟩)) = true
      ∧ (busy .awaiting (.await ⟨.a1, 0x20, none, []⟩)).seq.executing =
          some (executing (issue 1 0 5000 0) (.await ⟨.a1, 0x20, none, []⟩)) := by decide

/-- The kinds of an access that is not the one an end names. -/
theorem witness_OtherAccess :
    (during run (.page .a0)).port.access = some ⟨.page .a0, some .e0, [], false⟩
      ∧ (AccessKind.page .a0 ≠ .route .a0 .fetch) ∧ (AccessKind.route .a1 .fetch ≠ .route .a0 .fetch)
      ∧ (AccessKind.route .a0 .verification ≠ .route .a0 .fetch)
      ∧ (after (.fetchEnd .a0 .busError) (during run (.page .a0))) = some (during run (.page .a0)) := by decide

/-- Each premise of NothingToTake, in the state after reset and in a running one. -/
theorem witness_NothingToTake :
    (State.reset.axis .a0).seq.stopNotices = 0 ∧ (State.reset.axis .a0).pos.counting = none
      ∧ { idle.pos with standstill := true }.standstill = true ∧ idle.pos.stallStart = none ∧ idle.seq.moveExpiry = none
      ∧ idle.seq.state ≠ .dwelling ∧ idle.seq.state ≠ .awaiting ∧ idle.route.patrolStart = none
      ∧ State.reset.reporter.timerStart = none ∧ { idle.drive with revClear := true }.revClear = true
      ∧ idle.drive.dirSetup = false ∧ idle.drive.dirHold = false ∧ State.reset.cmd.halt = none
      ∧ { run with xstopHigh := false }.xstopHigh = false ∧ State.reset.xstopHigh = true
      ∧ State.reset.port.access = none ∧ (during run (.page .a0)).port.access.isSome = true
      ∧ (0x7 : BitVec 4) ≠ 0xF ∧ ((0x18 : BitVec 6) ≠ 0x14) := by decide

end Sys2Proof.Tests
end

/-! PROOFS. CLEAR_REFERENCE (R114). Rules for an accepted COMMAND write and for the index that names an axis come first; a
taken CLEAR_REFERENCE is then the closed form of `State.setReferenced`, and a clear flag fails the fourth check of a move. -/

namespace Sys2Proof

/-! ### The index that names an axis -/

theorem AxisId.ofIndex_of_gt {b : Byte} (h : 3 < b.toNat) : AxisId.ofIndex b = none := by
  have hne (c : Byte) (hc : c.toNat ≤ 3) : b ≠ c := by rintro rfl; omega
  unfold AxisId.ofIndex
  rw [if_neg (hne 0 (by decide)), if_neg (hne 1 (by decide)), if_neg (hne 2 (by decide)), if_neg (hne 3 (by decide))]

@[simp] theorem AxisId.ofIndex_toIndex (n : AxisId) : AxisId.ofIndex n.toIndex = some n := by cases n <;> rfl

namespace Machine

theorem State.withAxis_of_gt {s : State} {index : Byte} (h : 3 < index.toNat) (take : State → AxisId → State) :
    s.withAxis index take = s.refuse .refusedArgument := by
  unfold State.withAxis
  rw [AxisId.ofIndex_of_gt h]

@[simp] theorem State.withAxis_toIndex (s : State) (n : AxisId) (take : State → AxisId → State) :
    s.withAxis n.toIndex take = take s n := by
  unfold State.withAxis
  rw [AxisId.ofIndex_toIndex]

/-! ### An accepted write -/

/-- R191: the state in which an accepted write is tested and taken. -/
def State.accepted (s : State) (code : Byte) : State :=
  { s with cmd.overrun := false, cmd.lastCode := code, cmd.detail := 0, cmd.detailIndex := 0 }

theorem State.accept_of_not_pending {s : State} (h : s.cmd.result ≠ .pending) (code : Byte) (take : State → State) :
    s.accept code take = take (s.accepted code) := if_neg h

@[simp] theorem State.accepted_axis (s : State) (code : Byte) (n : AxisId) : (s.accepted code).axis n = s.axis n := rfl

theorem State.accepted_setAxis (s : State) (code : Byte) (n : AxisId) (u : AxisUnit) :
    (s.accepted code).setAxis n u = (s.setAxis n u).accepted code := rfl

theorem State.accepted_finish (s : State) (code : Byte) (r : Result) :
    (s.accepted code).finish r 0 0 = s.afterFinal code r := rfl

theorem State.accepted_refuse (s : State) (code : Byte) (r : Result) :
    (s.accepted code).refuse r = s.afterFinal code r := rfl

@[simp] theorem State.afterFinal_axis (s : State) (code : Byte) (r : Result) (n : AxisId) :
    (s.afterFinal code r).axis n = s.axis n := rfl

theorem State.noSetupState_iff (s : State) :
    s.noSetupState = true ↔ s.cmd.controller = .blank ∨ s.cmd.controller = .loading := by
  simp [State.noSetupState]

/-! ### The referenced flag -/

theorem State.pageDue_eq_setAxis (s : State) (n : AxisId) : s.pageDue n = s.setAxis n ((s.pageDue n).axis n) := by
  unfold State.pageDue
  split
  · rw [State.setAxis_self]
  · rw [State.axis_modPage_same]
    rfl

theorem State.setAxis_setAxis (s : State) (n : AxisId) (u w : AxisUnit) :
    (s.setAxis n u).setAxis n w = s.setAxis n w := by
  cases n <;> rfl

/-- R113: a value taken by the referenced flag changes nothing but the flag and the page-due flag of its axis. -/
theorem State.setReferenced_eq_setAxis (s : State) (n : AxisId) (b : Bool) :
    s.setReferenced n b = s.setAxis n ((s.setReferenced n b).axis n) := by
  unfold State.setReferenced
  split
  · rw [State.setAxis_self]
  · rw [State.pageDue_eq_setAxis]
    simp only [State.modPos, State.setAxis_setAxis, State.axis_setAxis_same]

/-- R114: the blocks of an axis whose referenced flag CLEAR_REFERENCE has cleared. -/
def AxisUnit.unreferenced (u : AxisUnit) : AxisUnit :=
  { u with
    pos.referenced := false
    page.due := u.page.due || u.pos.referenced }

theorem State.setReferenced_false {s : State} {n : AxisId} (h : (s.axis n).seq.state ≠ .dormant) :
    s.setReferenced n false = s.setAxis n (s.axis n).unreferenced := by
  have hne : ((s.axis n).seq.state != .dormant) = true := bne_iff_ne.mpr h
  rw [State.setReferenced_eq_setAxis, State.setReferenced_own, hne, Bool.and_true, Bool.bne_false]
  rfl

/-- R29, R30: a move on an axis whose referenced flag is clear never gets past the fourth check. -/
theorem State.validate_move_unreferenced {s : State} {n : AxisId} (c : Section) {r : IssueRegion}
    (hflag : (s.axis n).pos.referenced = false)
    (hmove : WaypointKind.ofCode r.kind = some .moveTo ∨ WaypointKind.ofCode r.kind = some .moveBy) :
    s.validate n c r = some .rejectedProfile ∨ s.validate n c r = some .rejectedArgument
      ∨ s.validate n c r = some .rejectedUnreferenced := by
  obtain ⟨k, hk, hkind⟩ : ∃ k, WaypointKind.ofCode r.kind = some k ∧ (k = .moveTo ∨ k = .moveBy) :=
    hmove.elim (fun h => ⟨_, h, .inl rfl⟩) (fun h => ⟨_, h, .inr rfl⟩)
  have hmoves : (k == .moveTo || k == .moveBy) = true := by simpa using hkind
  unfold State.validate
  simp only [hk, hmoves, hflag, Bool.true_or, Bool.true_and, Bool.not_false, if_true]
  by_cases hprofile : (ProfileId.ofSelector r.selector).isNone
  · exact .inl (if_pos hprofile)
  · rw [if_neg hprofile]
    by_cases hargs : (!s.argumentsValid n c k r) = true
    · exact .inr (.inl (if_pos hargs))
    · exact .inr (.inr (if_neg hargs))

/-! ### CLEAR_REFERENCE -/

theorem exec_clearReference {s : State} (high : s.resetLow = false) (free : s.cmd.result ≠ .pending) (index : Byte)
    (argument : BitVec 16) :
    exec (.clearReference index argument) s = .next ((s.accepted 0x12).takeClearReference index) :=
  congrArg Host.Outcome.next ((State.unlessReset_high high _).trans (State.accept_of_not_pending free _ _))

theorem State.takeClearReference_of_gt {s : State} {index : Byte} (h : 3 < index.toNat) :
    s.takeClearReference index = s.refuse .refusedArgument := State.withAxis_of_gt h _

theorem State.takeClearReference_refused (s : State) {n : AxisId}
    (h : s.cmd.controller = .blank ∨ s.cmd.controller = .loading
      ∨ ((s.axis n).seq.state ≠ .idle ∧ (s.axis n).seq.state ≠ .held)) :
    s.takeClearReference n.toIndex = s.refuse .refusedState := by
  unfold State.takeClearReference
  rw [State.withAxis_toIndex, if_pos]
  simpa [State.noSetupState_iff, or_assoc] using h

theorem State.takeClearReference_taken (s : State) {n : AxisId} (hblank : s.cmd.controller ≠ .blank)
    (hloading : s.cmd.controller ≠ .loading) (hstate : (s.axis n).seq.state = .idle ∨ (s.axis n).seq.state = .held) :
    s.takeClearReference n.toIndex = (s.setAxis n (s.axis n).unreferenced).finish .done 0 0 := by
  have hdormant : (s.axis n).seq.state ≠ .dormant := by
    rcases hstate with h | h <;> simp [h]
  unfold State.takeClearReference
  rw [State.withAxis_toIndex, if_neg, State.setReferenced_false hdormant]
  rcases hstate with h | h <;> simp [State.noSetupState_iff, hblank, hloading, h]

end Machine

end Sys2Proof

section

open Sys2Proof Sys2Proof.Machine

/-- Settles O24: the two refusals and the taken command each are `takeClearReference` in the accepted state, and the flag
that the taken one clears rejects a later move. -/
theorem clearReferenceTaken : Obligations.ClearReferenceTaken := by
  unfold Obligations.ClearReferenceTaken
  intro index argument s high free
  refine ⟨fun hindex => ?_, ?_⟩
  · rw [exec_clearReference high free, State.takeClearReference_of_gt hindex, State.accepted_refuse]
  · rintro n rfl
    refine ⟨fun hrefused => ?_, fun hblank hloading hstate => ?_⟩
    · rw [exec_clearReference high free, (s.accepted 0x12).takeClearReference_refused hrefused, State.accepted_refuse]
    · refine ⟨(s.setAxis n (s.axis n).unreferenced).afterFinal 0x12 .done, ?_, rfl, fun c r hmove => ?_⟩
      · rw [exec_clearReference high free, (s.accepted 0x12).takeClearReference_taken hblank hloading hstate,
          State.accepted_axis, State.accepted_setAxis, State.accepted_finish]
      · exact State.validate_move_unreferenced c (by rw [State.afterFinal_axis, State.axis_setAxis_same]; rfl) hmove

end

/-! PROOFS. CLOSE_APERTURE and OPEN_APERTURE (R145). What `State.takeAperture` does at each of its tests
comes first; the commit replaces every entry state, and what it does afterwards is the work of
one axis after another, whose frame leaves the aperture states alone. -/

namespace Sys2Proof

/-! ### The index that names an aperture entry -/

theorem EntryId.ofIndex_of_gt {b : Byte} (h : 5 < b.toNat) : EntryId.ofIndex b = none := by
  have hne (c : Byte) (hc : c.toNat ≤ 5) : b ≠ c := by rintro rfl; omega
  unfold EntryId.ofIndex
  rw [if_neg (hne 0 (by decide)), if_neg (hne 1 (by decide)), if_neg (hne 2 (by decide)), if_neg (hne 3 (by decide)),
    if_neg (hne 4 (by decide)), if_neg (hne 5 (by decide))]

theorem EntryId.ofIndex_ofNat_toNat (i : EntryId) : EntryId.ofIndex (BitVec.ofNat 8 i.toNat) = some i := by
  cases i <;> rfl

theorem EntryId.ofIndex_of_toNat {b : Byte} {i : EntryId} (h : b.toNat = i.toNat) : EntryId.ofIndex b = some i := by
  rw [← i.ofIndex_ofNat_toNat, ← h, BitVec.ofNat_toNat, BitVec.setWidth_eq]

namespace Machine

/-! ### The aperture commands -/

theorem State.entryUsed_iff (s : State) (i : EntryId) :
    s.entryUsed i = true ↔ ∃ u, s.setup = some u ∧ (u.apertures.get i).rights ≠ .none := by
  unfold State.entryUsed
  cases s.setup <;> simp

theorem State.entryUsed_eq_false_iff (s : State) (i : EntryId) :
    s.entryUsed i = false ↔ s.setup = none ∨ ∃ u, s.setup = some u ∧ (u.apertures.get i).rights = .none := by
  unfold State.entryUsed
  cases s.setup <;> simp

theorem State.takeAperture_of_gt (s : State) {index : Byte} (h : 5 < index.toNat) (opened : Bool) :
    s.takeAperture index opened = s.refuse .refusedArgument := by
  unfold State.takeAperture
  rw [EntryId.ofIndex_of_gt h]

section

variable (s : State) {index : Byte} {i : EntryId} (hindex : index.toNat = i.toNat) (opened : Bool)
include hindex

theorem State.takeAperture_noSetup (h : s.cmd.controller = .blank ∨ s.cmd.controller = .loading) :
    s.takeAperture index opened = s.refuse .refusedState := by
  unfold State.takeAperture
  rw [EntryId.ofIndex_of_toNat hindex]
  exact if_pos (s.noSetupState_iff.mpr h)

theorem State.takeAperture_of_setupState (hblank : s.cmd.controller ≠ .blank) (hloading : s.cmd.controller ≠ .loading) :
    s.takeAperture index opened =
      if s.entryUsed i = true then { s with apertureOpen := s.apertureOpen.set i opened }.finish .done 0 0
      else s.refuse .refusedArgument := by
  have hstate : ¬ s.noSetupState = true := by simp [State.noSetupState_iff, hblank, hloading]
  unfold State.takeAperture
  rw [EntryId.ofIndex_of_toNat hindex]
  exact (if_neg hstate).trans (by cases s.entryUsed i <;> rfl)

end

/-- The code of an aperture command, and the entry state that it gives (R145). -/
def IsApertureCommand (c : Instr) (index : Byte) (argument : BitVec 16) (code : Byte) (opened : Bool) : Prop :=
  (c = .closeAperture index argument ∧ code = 0x20 ∧ opened = false)
    ∨ (c = .openAperture index argument ∧ code = 0x21 ∧ opened = true)

theorem exec_apertureCommand {s : State} {c : Instr} {index code : Byte} {argument : BitVec 16} {opened : Bool}
    (high : s.resetLow = false) (free : s.cmd.result ≠ .pending) (hc : IsApertureCommand c index argument code opened) :
    exec c s = .next ((s.accepted code).takeAperture index opened) := by
  have accepts (take : State → State) : s.unlessReset (fun s => s.accept code take) = take (s.accepted code) :=
    (State.unlessReset_high high _).trans (State.accept_of_not_pending free _ _)
  rcases hc with ⟨rfl, rfl, rfl⟩ | ⟨rfl, rfl, rfl⟩
  · exact congrArg Host.Outcome.next (accepts fun s => s.takeAperture index false)
  · exact congrArg Host.Outcome.next (accepts fun s => s.takeAperture index true)

/-! ### The aperture states at a commit -/

theorem State.calm_stopCheck (s : State) (n : AxisId) : Calm n s (s.stopCheck n) := by
  unfold State.stopCheck
  split
  · exact s.calm_takeCause n _ _
  · exact .refl ..

theorem State.eachAxis_apertureOpen {f : State → AxisId → State} (h : ∀ s n, Frame n s (f s n)) (s : State) :
    (s.eachAxis f).apertureOpen = s.apertureOpen := by
  unfold State.eachAxis
  rw [(h _ _).apertureOpen, (h _ _).apertureOpen, (h _ _).apertureOpen, (h _ _).apertureOpen]

/-- R139: the commit gives each entry the state of its open-at-load flag, whatever state it had. -/
theorem State.commitLoad_apertureOpen (s : State) (ws : List Word) (j : EntryId) :
    (s.commitLoad ws).apertureOpen.get j = ((parseSetup ws).apertures.get j).opens := by
  unfold State.commitLoad
  rw [State.eachAxis_apertureOpen fun s n => (s.calm_repeatLoss n).toFrame,
    State.eachAxis_apertureOpen fun s n => (s.calm_stopCheck n).toFrame, State.finish_apertureOpen]
  cases j <;> rfl

end Machine

end Sys2Proof

section

open Sys2Proof Sys2Proof.Machine

/-- Settles O26: each clause is one end of `takeAperture` in the accepted state, and the commit overwrites every entry. -/
theorem apertureCommands : Obligations.ApertureCommands := by
  unfold Obligations.ApertureCommands
  intro index argument s c code opened high free hc
  rw [exec_apertureCommand high free hc]
  refine ⟨fun hgt => ?_, fun i hindex => ⟨fun hnoSetup => ?_, fun hblank hloading => ⟨fun hunused => ?_, ?_⟩, ?_⟩⟩
  · rw [(s.accepted code).takeAperture_of_gt hgt, State.accepted_refuse]
  · rw [(s.accepted code).takeAperture_noSetup hindex opened hnoSetup, State.accepted_refuse]
  · have hused : (s.accepted code).entryUsed i = false := (State.entryUsed_eq_false_iff _ i).mpr hunused
    rw [(s.accepted code).takeAperture_of_setupState hindex opened hblank hloading, hused,
      if_neg Bool.false_ne_true, State.accepted_refuse]
  · intro u hu hrights
    have hused : (s.accepted code).entryUsed i = true := (State.entryUsed_iff _ i).mpr ⟨u, hu, hrights⟩
    rw [(s.accepted code).takeAperture_of_setupState hindex opened hblank hloading, if_pos hused]
    rfl
  · exact s.commitLoad_apertureOpen

end

/-! PROOFS. PIN_RESET (R174, R188). The state after a pin reset is one closed form, whose blocks are the reset values of
the model; while RESET_N is low every write to the port and every idle step leave a state as it is. -/

namespace Sys2Proof.Machine

/-! ### While RESET_N is low -/

/-- R188: the two rows that refuse an ill-formed term refuse none while RESET_N is low, and every other write goes through
`State.unlessReset`. -/
theorem exec_portWrite_low {s : State} (low : s.resetLow = true) {c : Instr} (write : c.isPortWrite = true) :
    exec c s = .next s := by
  have ignored (take : State → State) : (.next (s.unlessReset take) : Host.Outcome State Fault Refusal) = .next s :=
    congrArg Host.Outcome.next (State.unlessReset_low low take)
  have notRefused (ill : Bool) : ¬ (ill && !s.resetLow) = true := by simp [low]
  cases c with
  | loadSetup | start | haltAll | abortAxis | releaseAxis | clearReference | snapshot | closeAperture | openAperture
  | resetPart | notice | attn | attnMask | setupAddr => exact ignored _
  | unknownCommandCode code => exact (if_neg (notRefused _)).trans (ignored _)
  | registerWriteNoEffect => exact if_neg (notRefused _)
  | _ => nomatch write

/-- R174: the time base does not count while RESET_N is low, and the part raises no event of its own. -/
theorem step_idle_low {s : State} (low : s.resetLow = true) (empty : s.pending = []) : step s = .next s := by
  have idles : s.idle = s := if_pos low
  unfold step
  rw [empty]
  exact congrArg Host.Outcome.next idles

/-! ### The state after a pin reset -/

/-- R174: the part after a pin reset, with the levels found. The queue and the counter of free values are the model's. -/
def State.afterPinReset (s : State) (pins : ResetPins) (refs : PerAxis Bool) : State :=
  { State.reset with
    xstopHigh := pins.xstopHigh
    axes := ⟨.afterPinReset refs.a0, .afterPinReset refs.a1, .afterPinReset refs.a2, .afterPinReset refs.a3⟩
    resetLow := pins.low
    freeCount := s.freeCount
    pending := s.pending }

theorem exec_pinReset (pins : ResetPins) (refs : PerAxis Bool) (s : State) :
    exec (.pinReset pins refs) s = .next (s.afterPinReset pins refs) := rfl

/-- R195, R199: COMMAND reads as 0 at the reset values of the command unit. -/
theorem State.commandWord_of_cmd_reset {t : State} (h : t.cmd = .reset) : t.commandWord = 0 := by
  rw [State.commandWord, h]
  decide

/-- R106, R123: without the values that a setup gives, a position unit has no standstill condition. -/
theorem State.standsStill_of_noParams {s : State} {n : AxisId} (h : (s.axis n).pos.params = none) :
    s.standsStill n = false := by
  unfold State.standsStill
  rw [h]

/-- R113, R123: a commit keeps no referenced flag of a unit whose counting was OFF. -/
theorem PositionUnit.commit_referenced_of_off {p : PositionUnit} (off : p.counting = none) (c : Section) (now : Word) :
    (p.commit c now).referenced = false := by
  have notKept : p.retains c = false := by simp [PositionUnit.retains, off]
  exact congrArg (· && p.referenced) notKept

section

variable (s : State) (pins : ResetPins) (refs : PerAxis Bool)

@[simp] theorem State.afterPinReset_axis (n : AxisId) :
    (s.afterPinReset pins refs).axis n = .afterPinReset (refs.get n) := by
  cases n <;> rfl

theorem State.afterPinReset_apertureOpen (i : EntryId) : (s.afterPinReset pins refs).apertureOpen.get i = false := by
  cases i <;> rfl

/-- R198: no outcome latch is occupied and no page write has failed, so both masks are 0. -/
theorem State.afterPinReset_conditionWord :
    (s.afterPinReset pins refs).conditionWord = if pins.xstopHigh then 0x10 else 0 := by
  have hlatches : (s.afterPinReset pins refs).latchMask = axisMask fun _ => false := rfl
  have hstale : (s.afterPinReset pins refs).staleMask = axisMask fun _ => false := rfl
  have hcmd : (s.afterPinReset pins refs).cmd = .reset := rfl
  have hlevel : (s.afterPinReset pins refs).xstopHigh = pins.xstopHigh := rfl
  rw [State.conditionWord, hlatches, hstale, hcmd, hlevel]
  cases pins.xstopHigh <;> decide

/-- R174, R188: after a pin reset IDENT, CONDITION with the level found, and zeros are read. -/
theorem State.afterPinReset_readRegister (offset : BitVec 6) :
    (s.afterPinReset pins refs).readRegister offset =
      if offset = 0x00 then 0x00024100 else if offset = 0x18 then (if pins.xstopHigh then 0x10 else 0) else 0 := by
  have hsetupAddr : (s.afterPinReset pins refs).cmd.setupAddr = 0 := rfl
  have hcommand : (s.afterPinReset pins refs).commandWord = 0 := State.commandWord_of_cmd_reset rfl
  have hattn : (s.afterPinReset pins refs).attn.zeroExtend 32 = 0 := rfl
  have hattnMask : (s.afterPinReset pins refs).attnMask.zeroExtend 32 = 0 := rfl
  unfold State.readRegister
  rw [hsetupAddr, hcommand, hattn, hattnMask, State.afterPinReset_conditionWord, identWord]
  by_cases hcondition : offset = 0x18
  · subst hcondition
    rfl
  · simp only [if_neg hcondition, ite_self]

end

end Sys2Proof.Machine

section

open Sys2Proof Sys2Proof.Machine

/-- Settles O4: each block of the closed form `State.afterPinReset` is the model's reset value of that block. -/
theorem pinResetValues : Obligations.PinResetValues := by
  unfold Obligations.PinResetValues
  intro low high refs s
  refine ⟨s.afterPinReset ⟨low, high⟩ refs, exec_pinReset _ _ s, rfl, s.afterPinReset_apertureOpen _ refs,
    fun hlow => ⟨fun _ => exec_portWrite_low hlow, step_idle_low hlow⟩, ?_⟩
  have hcmd : (s.afterPinReset ⟨low, high⟩ refs).cmd = .reset := rfl
  have hport : (s.afterPinReset ⟨low, high⟩ refs).port = .reset := rfl
  have hreporter : (s.afterPinReset ⟨low, high⟩ refs).reporter = .reset := rfl
  have hstill (n : AxisId) : (s.afterPinReset ⟨low, high⟩ refs).standsStill n = false :=
    State.standsStill_of_noParams (by rw [State.afterPinReset_axis]; rfl)
  have hunreferenced (n : AxisId) (c : Section) (now : Word) :
      ((AxisUnit.afterPinReset (refs.get n)).pos.commit c now).referenced = false :=
    PositionUnit.commit_referenced_of_off rfl c now
  simp only [hcmd, hport, hreporter, State.afterPinReset_axis, hstill, hunreferenced, s.afterPinReset_readRegister]
  simp [CommandUnit.reset, MemoryPort.reset, Reporter.reset, AxisUnit.afterPinReset, AxisUnit.reset, RouteUnit.reset,
    Sequencer.reset, PositionUnit.reset, DriveStage.reset, PageUnit.reset, State.afterPinReset, State.reset]

end

/-! PROOFS. ATTN, ATTN_MASK and IRQ_N (R185, R186). Each of the two writes has one closed form, read bit by bit; IRQ_N is
then asserted by any bit that stands in both registers. -/

namespace Sys2Proof.Machine

/-! ### The six bits of a written value -/

theorem getLsbD_sixBits (value : Word) {i : Nat} (h : i < 6) :
    (value.extractLsb' 0 6).getLsbD i = value.getLsbD i := by
  simp [h]

/-- R186: the six bits read back are the value written with bits 6 to 31 as 0. -/
theorem zeroExtend_sixBits (value : Word) : (value.extractLsb' 0 6).zeroExtend 32 = value &&& 0x3F := by
  apply BitVec.eq_of_toNat_eq
  have hmask : value.toNat &&& 63 = value.toNat % 64 := Nat.and_two_pow_sub_one_eq_mod value.toNat 6
  have hsmall : value.toNat % 64 < 4294967296 := by omega
  simp [hmask, hsmall]

/-! ### The writes -/

/-- R185: the state after a taken write to ATTN. -/
def State.clearAttn (s : State) (value : Word) : State := { s with attn := s.attn &&& ~~~(value.extractLsb' 0 6) }

/-- R186: the state after a taken write to ATTN_MASK. -/
def State.setAttnMask (s : State) (value : Word) : State := { s with attnMask := value.extractLsb' 0 6 }

theorem exec_attn {s : State} (high : s.resetLow = false) (value : Word) :
    exec (.attn value) s = .next (s.clearAttn value) :=
  congrArg Host.Outcome.next (State.unlessReset_high high _)

theorem exec_attnMask {s : State} (high : s.resetLow = false) (value : Word) :
    exec (.attnMask value) s = .next (s.setAttnMask value) :=
  congrArg Host.Outcome.next (State.unlessReset_high high _)

theorem State.clearAttn_attn (s : State) (value : Word) :
    (s.clearAttn value).attn = s.attn &&& ~~~(value.extractLsb' 0 6) := rfl

@[simp] theorem State.clearAttn_attnMask (s : State) (value : Word) : (s.clearAttn value).attnMask = s.attnMask := rfl

theorem State.setAttnMask_attnMask (s : State) (value : Word) :
    (s.setAttnMask value).attnMask = value.extractLsb' 0 6 := rfl

@[simp] theorem State.setAttnMask_attn (s : State) (value : Word) : (s.setAttnMask value).attn = s.attn := rfl

theorem State.clearAttn_getLsbD (s : State) (value : Word) {i : Nat} (h : i < 6) :
    (s.clearAttn value).attn.getLsbD i = (s.attn.getLsbD i && !value.getLsbD i) := by
  rw [State.clearAttn_attn, BitVec.getLsbD_and, BitVec.getLsbD_not, getLsbD_sixBits value h, decide_eq_true h,
    Bool.true_and]

theorem State.setAttnMask_getLsbD (s : State) (value : Word) {i : Nat} (h : i < 6) :
    (s.setAttnMask value).attnMask.getLsbD i = value.getLsbD i := by
  rw [State.setAttnMask_attnMask, getLsbD_sixBits value h]

theorem State.raise_getLsbD (s : State) {bits : BitVec 6} {i : Nat} (h : bits.getLsbD i = true) :
    (s.raise bits).attn.getLsbD i = true := by
  rw [State.raise_attn, BitVec.getLsbD_or, h, Bool.or_true]

/-! ### IRQ_N -/

theorem State.irqAsserted_iff (s : State) : s.irqAsserted = true ↔ s.attn &&& s.attnMask ≠ 0 := bne_iff_ne

theorem State.irqAsserted_of_getLsbD {s : State} {i : Nat} (hattn : s.attn.getLsbD i = true)
    (hmask : s.attnMask.getLsbD i = true) : s.irqAsserted = true := by
  rw [State.irqAsserted_iff]
  intro hzero
  have hbit : (s.attn &&& s.attnMask).getLsbD i = true := by rw [BitVec.getLsbD_and, hattn, hmask, Bool.true_and]
  simp [hzero] at hbit

/-- R186: a setting cause for an admitted bit asserts IRQ_N, whatever stood in ATTN before. -/
theorem State.raise_irqAsserted (s : State) {bits : BitVec 6} (h : bits &&& s.attnMask ≠ 0) :
    (s.raise bits).irqAsserted = true := by
  rw [State.irqAsserted_iff, State.raise_attn, State.raise_attnMask, BitVec.and_comm, BitVec.and_or_distrib_left]
  intro hzero
  exact h ((BitVec.and_comm _ _).trans (BitVec.or_eq_zero_iff.mp hzero).2)

/-- R186: a write to ATTN that clears the last admitted bit releases IRQ_N. -/
theorem State.clearAttn_irqReleased {s : State} {value : Word}
    (h : s.attn &&& ~~~(value.extractLsb' 0 6) &&& s.attnMask = 0) : (s.clearAttn value).irqAsserted = false := by
  rw [← Bool.not_eq_true, State.irqAsserted_iff, State.clearAttn_attn, State.clearAttn_attnMask]
  exact not_not_intro h

end Sys2Proof.Machine

section

open Sys2Proof Sys2Proof.Machine

/-- Settles O13: `State.clearAttn` bit by bit; a cause taken before the write stands among the bits it clears, one taken
after it sets its bit in what the write left. -/
theorem attnWriteClears : Obligations.AttnWriteClears := by
  unfold Obligations.AttnWriteClears
  intro value s high
  refine ⟨s.clearAttn value, exec_attn high value, fun i hi => s.clearAttn_getLsbD value hi, rfl, rfl,
    fun bits i hi hwritten hbit => ⟨?_, State.raise_getLsbD _ hbit⟩⟩
  intro u hu
  have hraised : (s.raise bits).resetLow = false := high
  rw [exec_attn hraised] at hu
  obtain rfl := Host.Outcome.next.inj hu
  rw [(s.raise bits).clearAttn_getLsbD value hi, hwritten, Bool.not_true, Bool.and_false]

/-- Settles O14: `State.setAttnMask` bit by bit, and IRQ_N as the AND of the two registers after each of the three events
that change one of them. -/
theorem attnMaskWriteReplaces : Obligations.AttnMaskWriteReplaces := by
  unfold Obligations.AttnMaskWriteReplaces
  intro value s high
  refine ⟨s.setAttnMask value, exec_attnMask high value, fun i hi => s.setAttnMask_getLsbD value hi, rfl,
    zeroExtend_sixBits value, State.irqAsserted_iff, fun i hi hvalue hattn => ?opened, fun w u hu hcleared => ?cleared⟩
  case opened =>
    exact State.irqAsserted_of_getLsbD hattn ((s.setAttnMask_getLsbD value hi).trans hvalue)
  case cleared =>
    rw [exec_attn high] at hu
    obtain rfl := Host.Outcome.next.inj hu
    exact ⟨State.clearAttn_irqReleased hcleared, fun bits hadmitted => State.raise_irqAsserted _ hadmitted⟩

end

/-! PROOFS. SETUP_ADDR and IDENT (R189, R190). What an event of one axis does is a `State.Frame`, which leaves SETUP_ADDR
alone; the commands and the accesses of the other requesters are chains of such events, of `State.finish` and of changes
outside the register. -/

namespace Sys2Proof.Machine

/-! ### The next state of an outcome -/

/-- A property of the next state, where there is one. -/
def NextHolds (p : State → Prop) : Host.Outcome State Fault Refusal → Prop
  | .next t => p t
  | .fault _ => True
  | .refused _ => True

theorem NextHolds.of_next {p : State → Prop} {o : Host.Outcome State Fault Refusal} {t : State} (h : NextHolds p o)
    (ht : o = .next t) : p t := by
  subst ht
  exact h

theorem NextHolds.mono {p q : State → Prop} {o : Host.Outcome State Fault Refusal} (h : NextHolds p o)
    (hpq : ∀ t, p t → q t) : NextHolds q o := by
  cases o with
  | next t => exact hpq t h
  | fault | refused => trivial

/-! ### The frame of the inputs and timers of one axis -/

theorem State.Frame.conclude {n : AxisId} {s t : State} (h : Frame n s t) : Frame n s (t.conclude n) :=
  h.trans (t.frame_conclude n)

theorem State.Calm.conclude {n : AxisId} {s t : State} (h : Calm n s t) : Frame n s (t.conclude n) := h.toFrame.conclude

section

variable (n : AxisId) (s : State)

theorem execAssertionNotice_frame : NextHolds (State.Frame n s) (execAssertionNotice n s) := by
  unfold execAssertionNotice
  split
  · exact ((s.frame_modSeq n _).trans (State.calm_takeCause _ n _ _).toFrame).conclude
  · exact .refl ..

theorem execCountChange_frame (edges : List Edge) : NextHolds (State.Frame n s) (execCountChange n edges s) := by
  unfold execCountChange
  split
  · exact .refl ..
  · dsimp only
    split
    · exact .refl ..
    · exact ((s.frame_modPos n _).trans (State.calm_sequencerCounts _ n _).toFrame).conclude

theorem execRefLevelChange_frame (active : Bool) : NextHolds (State.Frame n s) (execRefLevelChange n active s) := by
  have handed := (s.frame_modPos n fun p => { p with refLevel := active }).trans
    (State.frame_modSeq _ n fun q => { q with refHanded := active })
  unfold execRefLevelChange
  split
  · exact .refl ..
  · dsimp only
    split
    · exact s.frame_modPos n _
    · cases active with
      | false => exact (handed.trans (State.calm_endBackOff _ n).toFrame).conclude
      | true => exact handed.conclude

theorem execPairBroken_frame (pair : Pair) : NextHolds (State.Frame n s) (execPairBroken n pair s) := by
  unfold execPairBroken
  dsimp only
  split
  · exact .refl ..
  · split
    · exact s.frame_modPos n _
    · exact (((s.frame_modPos n _).trans (State.frame_modPos _ n _)).trans
        (State.calm_loseReference _ n _ _).toFrame).conclude

theorem execPairIntact_frame (pair : Pair) : NextHolds (State.Frame n s) (execPairIntact n pair s) := by
  unfold execPairIntact
  dsimp only
  split
  · exact .refl ..
  · exact s.frame_modPos n _

theorem execStandstillReached_frame : NextHolds (State.Frame n s) (execStandstillReached n s) := by
  unfold execStandstillReached
  split
  · exact ((s.frame_modPos n _).trans (State.calm_sequencerRests _ n).toFrame).conclude
  · exact .refl ..

theorem execStallTimeExpiry_frame : NextHolds (State.Frame n s) (execStallTimeExpiry n s) := by
  unfold execStallTimeExpiry
  split
  · exact ((s.frame_modPos n _).trans (State.calm_takeCause _ n _ _).toFrame).conclude
  · exact .refl ..

theorem execMoveTimeLimitExpiry_frame : NextHolds (State.Frame n s) (execMoveTimeLimitExpiry n s) := by
  unfold execMoveTimeLimitExpiry
  split
  · exact (s.calm_enterStopping n _ _).conclude
  · exact .refl ..

theorem execDwellExpiry_frame : NextHolds (State.Frame n s) (execDwellExpiry n s) := by
  unfold execDwellExpiry
  split
  · exact ((s.calm_closeRecordAt n _ _).trans (State.calm_enterIdle _ n)).conclude
  · exact .refl ..

theorem execAwaitDeadline_frame : NextHolds (State.Frame n s) (execAwaitDeadline n s) := by
  unfold execAwaitDeadline
  split
  · exact ((s.calm_closeRecord n _).trans (State.calm_enterHeld _ n _)).conclude
  · exact .refl ..

theorem execClosureAnnouncement_frame : NextHolds (State.Frame n s) (execClosureAnnouncement n s) := by
  unfold execClosureAnnouncement
  split
  · exact .refl ..
  · split
    · exact .refl ..
    · split
      · exact ((s.calm_closeRecord n _).trans (State.calm_enterIdle _ n)).conclude
      · exact (s.calm_setWork n _).toFrame

theorem execPatrolTimerExpiry_frame : NextHolds (State.Frame n s) (execPatrolTimerExpiry n s) := by
  unfold execPatrolTimerExpiry
  split
  · split
    · exact ((s.calm_modRoute n _).trans (State.calm_startFetch _ n)).toFrame
    · exact s.frame_modRoute n _
  · exact .refl ..

theorem execPauseElapsed_frame : NextHolds (State.Frame n s) (execPauseElapsed n s) := by
  unfold execPauseElapsed
  split
  · exact (s.frame_modDrive n _).conclude
  · exact .refl ..

theorem execDirectionSetupElapsed_frame : NextHolds (State.Frame n s) (execDirectionSetupElapsed n s) := by
  unfold execDirectionSetupElapsed
  split
  · exact (s.frame_modDrive n _).conclude
  · exact .refl ..

theorem execDirectionHoldElapsed_frame : NextHolds (State.Frame n s) (execDirectionHoldElapsed n s) := by
  unfold execDirectionHoldElapsed
  split
  · exact (s.frame_modDrive n _).conclude
  · exact .refl ..

end

/-! ### Operations that keep SETUP_ADDR -/

/-- SETUP_ADDR is as it was. -/
def State.KeepsSetupAddr (s t : State) : Prop := t.cmd.setupAddr = s.cmd.setupAddr

theorem State.KeepsSetupAddr.refl (s : State) : s.KeepsSetupAddr s := rfl

theorem State.KeepsSetupAddr.trans {s t u : State} (h : s.KeepsSetupAddr t) (k : t.KeepsSetupAddr u) :
    s.KeepsSetupAddr u := Eq.trans k h

/-- What happens after a change outside SETUP_ADDR. -/
theorem State.KeepsSetupAddr.after {s t u : State} (k : t.KeepsSetupAddr u)
    (h : t.cmd.setupAddr = s.cmd.setupAddr := by rfl) : s.KeepsSetupAddr u := Eq.trans k h

theorem State.Frame.keepsSetupAddr {n : AxisId} {s t : State} (h : Frame n s t) : s.KeepsSetupAddr t := h.setupAddr

theorem NextHolds.keepsSetupAddr {n : AxisId} {s : State} {o : Host.Outcome State Fault Refusal}
    (h : NextHolds (State.Frame n s) o) : NextHolds s.KeepsSetupAddr o := h.mono fun _ frame => frame.keepsSetupAddr

theorem State.Calm.keepsSetupAddr {n : AxisId} {s t : State} (h : Calm n s t) : s.KeepsSetupAddr t := h.setupAddr

theorem State.KeepsSetupAddr.conclude {s t : State} (h : s.KeepsSetupAddr t) (n : AxisId) :
    s.KeepsSetupAddr (t.conclude n) := h.trans (t.frame_conclude n).keepsSetupAddr

theorem State.KeepsSetupAddr.finish {s t : State} (h : s.KeepsSetupAddr t) (r : Result) (d i : Byte) :
    s.KeepsSetupAddr (t.finish r d i) := h

theorem State.KeepsSetupAddr.eachAxis {s t : State} (h : s.KeepsSetupAddr t) {f : State → AxisId → State}
    (hf : ∀ (s : State) n, s.KeepsSetupAddr (f s n)) : s.KeepsSetupAddr (t.eachAxis f) :=
  (((h.trans (hf _ _)).trans (hf _ _)).trans (hf _ _)).trans (hf _ _)

theorem State.KeepsSetupAddr.concludeAll {s t : State} (h : s.KeepsSetupAddr t) : s.KeepsSetupAddr t.concludeAll :=
  h.eachAxis fun s n => (KeepsSetupAddr.refl s).conclude n

/-! ### The writes to the port -/

theorem State.unlessReset_keepsSetupAddr {take : State → State} (h : ∀ s : State, s.KeepsSetupAddr (take s))
    (s : State) : s.KeepsSetupAddr (s.unlessReset take) := by
  unfold State.unlessReset
  split
  · exact .refl s
  · exact h s

theorem State.accept_keepsSetupAddr {take : State → State} (h : ∀ s : State, s.KeepsSetupAddr (take s)) (code : Byte)
    (s : State) : s.KeepsSetupAddr (s.accept code take) := by
  unfold State.accept
  split
  · exact .refl s
  · exact h (s.accepted code)

/-- R188, R191: a COMMAND write keeps SETUP_ADDR where its command, once accepted, keeps it. -/
theorem command_keepsSetupAddr {take : State → State} (h : ∀ s : State, s.KeepsSetupAddr (take s)) (code : Byte)
    (s : State) : s.KeepsSetupAddr (s.unlessReset fun s => s.accept code take) :=
  State.unlessReset_keepsSetupAddr (State.accept_keepsSetupAddr h code) s

theorem State.withAxis_keepsSetupAddr {take : State → AxisId → State}
    (h : ∀ (s : State) n, s.KeepsSetupAddr (take s n)) (s : State) (index : Byte) : s.KeepsSetupAddr (s.withAxis index take) := by
  unfold State.withAxis
  split
  · exact .refl s
  · exact h s _

theorem State.beginLoad_keepsSetupAddr (s : State) (index : Byte) (origin : Origin) :
    s.KeepsSetupAddr (s.beginLoad index origin) := by
  unfold State.beginLoad
  split
  · exact .refl s
  · split <;> exact .refl s

theorem State.takeLoadSetup_keepsSetupAddr (index : Byte) (s : State) : s.KeepsSetupAddr (s.takeLoadSetup index) := by
  unfold State.takeLoadSetup
  cases s.cmd.controller with
  | blank => exact s.beginLoad_keepsSetupAddr index .blank
  | loaded => exact s.beginLoad_keepsSetupAddr index .loaded
  | loading | running | halting => exact .refl s

theorem State.frame_startCheck (s : State) (n : AxisId) : Frame n s (s.startCheck n) := by
  unfold State.startCheck
  split
  · exact (s.frame_modSeq n _).trans (State.calm_takeCause _ n _ _).toFrame
  · exact .refl ..

theorem State.takeStart_keepsSetupAddr (s : State) : s.KeepsSetupAddr s.takeStart := by
  have checked : s.KeepsSetupAddr (s.eachAxis State.startCheck) :=
    (KeepsSetupAddr.refl s).eachAxis fun s n => (s.frame_startCheck n).keepsSetupAddr
  have started : s.KeepsSetupAddr { s.eachAxis State.startCheck with cmd.controller := .running } := checked
  unfold State.takeStart
  split
  · exact (started.finish .done 0 0).concludeAll
  · exact .refl s

theorem State.calm_haltAxis (s : State) (n : AxisId) : Calm n s (s.haltAxis n) := by
  unfold State.haltAxis
  cases (s.axis n).seq.state with
  | dormant => exact .refl ..
  | idle | stopping | held => exact s.calm_discardStaging n
  | rapid | creep | coasting | pausing | seeking => exact s.calm_enterStopping n _ _
  | dwelling | awaiting =>
    exact ((s.calm_discardStaging n).trans (State.calm_closeRecord _ n _)).trans (State.calm_enterIdle _ n)

theorem State.formSettled_keepsSetupAddr (s : State) : s.KeepsSetupAddr s.formSettled := by
  unfold State.formSettled
  dsimp only
  split <;> exact .refl s

theorem State.takeHaltAll_keepsSetupAddr (index : Byte) (s : State) : s.KeepsSetupAddr (s.takeHaltAll index) := by
  have halted (u : State) : u.KeepsSetupAddr (u.eachAxis State.haltAxis) :=
    (KeepsSetupAddr.refl u).eachAxis fun s n => (s.calm_haltAxis n).keepsSetupAddr
  unfold State.takeHaltAll
  split
  · exact ((halted _).trans (State.formSettled_keepsSetupAddr _)).concludeAll.after
  · exact .refl s

theorem State.abortAxis_keepsSetupAddr (s : State) (n : AxisId) : s.KeepsSetupAddr (s.abortAxis n) := by
  unfold State.abortAxis
  cases (s.axis n).seq.state with
  | dormant | held | stopping => exact .refl s
  | idle => exact (s.calm_enterHeld n _).keepsSetupAddr
  | dwelling | awaiting => exact ((s.calm_closeRecord n _).trans (State.calm_enterHeld _ n _)).keepsSetupAddr
  | rapid | creep | coasting | pausing | seeking => exact (s.calm_enterStopping n _ _).keepsSetupAddr

theorem State.takeAbortAxis_keepsSetupAddr (index : Byte) (s : State) : s.KeepsSetupAddr (s.takeAbortAxis index) := by
  refine State.withAxis_keepsSetupAddr (fun s n => ?_) s index
  split
  · exact .refl s
  · exact ((s.pend index).abortAxis_keepsSetupAddr n).conclude n

theorem State.completeRelease_keepsSetupAddr (s : State) (n : AxisId) : s.KeepsSetupAddr (s.completeRelease n) :=
  ((KeepsSetupAddr.refl s).finish .done 0 0).trans (s.calm_completeRelease n).keepsSetupAddr

theorem State.takeReleaseAxis_keepsSetupAddr (index : Byte) (s : State) : s.KeepsSetupAddr (s.takeReleaseAxis index) := by
  refine State.withAxis_keepsSetupAddr (fun s n => ?_) s index
  split
  · exact .refl s
  · split
    · exact (s.completeRelease_keepsSetupAddr n).conclude n
    · exact ((s.pend index).frame_modSeq n _).conclude.keepsSetupAddr

theorem State.takeClearReference_keepsSetupAddr (index : Byte) (s : State) :
    s.KeepsSetupAddr (s.takeClearReference index) := by
  refine State.withAxis_keepsSetupAddr (fun s n => ?_) s index
  split
  · exact .refl s
  · exact (s.calm_setReferenced n false).keepsSetupAddr.finish .done 0 0

theorem State.takeSnapshot_keepsSetupAddr (index : Byte) (s : State) : s.KeepsSetupAddr (s.takeSnapshot index) := by
  refine State.withAxis_keepsSetupAddr (fun s n => ?_) s index
  split
  · exact .refl s
  · exact (s.calm_pageDue n).keepsSetupAddr

theorem State.takeAperture_keepsSetupAddr (index : Byte) (opened : Bool) (s : State) :
    s.KeepsSetupAddr (s.takeAperture index opened) := by
  unfold State.takeAperture
  split
  · exact .refl s
  · split
    · exact .refl s
    · split <;> exact .refl s

/-- R173, R196: RESET_PART resets the command unit but for SETUP_ADDR and its own record. -/
theorem State.resetPart_keepsSetupAddr (s : State) : s.KeepsSetupAddr s.resetPart := rfl

theorem State.clearAttn_keepsSetupAddr (value : Word) (s : State) : s.KeepsSetupAddr (s.clearAttn value) := rfl

theorem State.setAttnMask_keepsSetupAddr (value : Word) (s : State) : s.KeepsSetupAddr (s.setAttnMask value) := rfl

theorem execUnknownCommandCode_keepsSetupAddr (code index : Byte) (argument : BitVec 16) (s : State) :
    NextHolds s.KeepsSetupAddr (execUnknownCommandCode code index argument s) := by
  unfold execUnknownCommandCode
  split
  · trivial
  · exact command_keepsSetupAddr (fun s => (State.KeepsSetupAddr.refl s).finish .refusedArgument 0 0) code s

theorem State.noticeBit_keepsSetupAddr (value : Word) (s : State) (n : AxisId) :
    s.KeepsSetupAddr (s.noticeBit value n) := by
  unfold State.noticeBit
  split
  · unfold State.noticeAxis
    split
    · exact .refl s
    · exact (s.frame_modRoute n _).conclude.keepsSetupAddr
  · exact .refl s

theorem execRegisterWriteNoEffect_keepsSetupAddr (offset : BitVec 6) (lanes : BitVec 4) (value : Word) (s : State) :
    NextHolds s.KeepsSetupAddr (execRegisterWriteNoEffect offset lanes value s) := by
  unfold execRegisterWriteNoEffect
  split
  · trivial
  · exact .refl s

/-! ### The stop line, index pulses and the events of the part's own blocks -/

theorem State.frame_handNotice (s : State) (n : AxisId) : Frame n s (s.handNotice n) := by
  unfold State.handNotice
  split
  · exact s.frame_modSeq n _
  · exact .refl ..

theorem execXstopAssertion_keepsSetupAddr (s : State) : NextHolds s.KeepsSetupAddr (execXstopAssertion s) := by
  unfold execXstopAssertion
  split
  · have asserted : s.KeepsSetupAddr ({ s with xstopHigh := false }.raise xstopAttnBit) := .refl s
    have locked := asserted.eachAxis (f := State.lockAxis) fun s n =>
      ((s.frame_modDrive n _).trans (State.frame_evalDrive _ n)).keepsSetupAddr
    exact locked.eachAxis fun s n => (s.frame_handNotice n).keepsSetupAddr
  · exact .refl s

theorem execXstopRelease_keepsSetupAddr (s : State) : NextHolds s.KeepsSetupAddr (execXstopRelease s) := by
  unfold execXstopRelease
  split
  · exact .refl s
  · have released : s.KeepsSetupAddr ({ s with xstopHigh := true }.raise xstopAttnBit) := .refl s
    exact released.eachAxis fun s n =>
      ((s.frame_modDrive n _).trans (State.frame_evalDrive _ n)).keepsSetupAddr

theorem execIndexPulse_keepsSetupAddr (n : AxisId) (s : State) : NextHolds s.KeepsSetupAddr (execIndexPulse n s) := by
  unfold execIndexPulse
  split
  · exact .refl s
  · dsimp only
    split
    · exact ((State.calm_testPulse _ n).trans (State.calm_takeSlip _ n _)).conclude.keepsSetupAddr.after
    · exact ((State.calm_takeSlip _ n _).trans (State.calm_testPulse _ n)).conclude.keepsSetupAddr.after

theorem execReportTimerExpiry_keepsSetupAddr (s : State) : NextHolds s.KeepsSetupAddr (execReportTimerExpiry s) := by
  unfold execReportTimerExpiry
  split
  · have restarted : s.KeepsSetupAddr { s with reporter.timerStart := some s.timeBase } := .refl s
    exact restarted.eachAxis fun s n =>
      (s.calm_pageDue n).keepsSetupAddr
  · exact .refl s

theorem execSettledReport_keepsSetupAddr (n : AxisId) (s : State) : NextHolds s.KeepsSetupAddr (execSettledReport n s) := by
  unfold execSettledReport
  split
  · exact .refl s
  · split
    · exact .refl s
    · dsimp only
      split <;> exact .refl s

/-! ### The memory port -/

theorem State.failLoad_keepsSetupAddr (s : State) (d : SetupDetail) (index : Byte) :
    s.KeepsSetupAddr (s.failLoad d index) := by
  unfold State.failLoad
  dsimp only
  exact ((KeepsSetupAddr.refl _).eachAxis fun s n => (s.calm_stopCheck n).keepsSetupAddr).after

theorem State.commitLoad_keepsSetupAddr (s : State) (ws : List Word) : s.KeepsSetupAddr (s.commitLoad ws) := by
  unfold State.commitLoad
  dsimp only
  have checked (u : State) : u.KeepsSetupAddr (u.eachAxis State.stopCheck) :=
    (KeepsSetupAddr.refl u).eachAxis fun s n => (s.calm_stopCheck n).keepsSetupAddr
  exact ((checked _).eachAxis fun s n => (s.calm_repeatLoss n).keepsSetupAddr).after

theorem State.chunkEnded_keepsSetupAddr (s : State) (j : Nat) (answer : Except Failure SetupChunk) :
    s.KeepsSetupAddr (s.chunkEnded j answer) := by
  unfold State.chunkEnded
  split
  · exact .refl s
  · split
    · exact s.failLoad_keepsSetupAddr _ _
    · dsimp only
      split
      · exact .refl s
      · split
        · exact s.failLoad_keepsSetupAddr _ _
        · exact s.commitLoad_keepsSetupAddr _

/-- R75, R76: a delivery that ends a release changes the command record and nothing else of the command unit. -/
theorem State.DeliveryLeaves.keepsSetupAddr {n : AxisId} {s t : State} (h : DeliveryLeaves n s t) : s.KeepsSetupAddr t := by
  obtain calm | ⟨-, -, ⟨_, -, calm⟩ | ⟨_, calm⟩⟩ := h
  · exact calm.keepsSetupAddr
  · exact calm.keepsSetupAddr
  · exact calm.keepsSetupAddr

/-- R51: where the verified record is a RETUNE, its execution start writes the setup store, which is no register. -/
theorem State.verificationEnded_keepsSetupAddr (s : State) (n : AxisId) (r : IssueRegion) :
    s.KeepsSetupAddr (s.verificationEnded n (.ok r)) := by
  obtain calm | ⟨-, -, -, -, calm⟩ := s.calm_verificationEnded n r
  · exact calm.keepsSetupAddr
  · exact calm.keepsSetupAddr

theorem State.pageFailed_keepsSetupAddr (s : State) (n : AxisId) (answers : Bool) (f : Failure) :
    s.KeepsSetupAddr (s.pageFailed n answers f) := by
  refine KeepsSetupAddr.trans ?_ (s.calm_pageFailed n answers f).keepsSetupAddr
  split <;> exact .refl s

theorem State.pageWritten_keepsSetupAddr (s : State) (n : AxisId) (answers : Bool) :
    s.KeepsSetupAddr (s.pageWritten n answers) := by
  refine KeepsSetupAddr.trans ?_ (s.calm_pageWritten n answers).keepsSetupAddr
  split <;> exact .refl s

theorem State.busFailed_keepsSetupAddr (s : State) (a : Access) : s.KeepsSetupAddr (s.busFailed a) := by
  unfold State.busFailed
  dsimp only
  split
  · exact .refl s
  · split
    · exact s.freePort.chunkEnded_keepsSetupAddr _ _
    · exact (s.freePort.leaves_routeFailed _ _ _).keepsSetupAddr.conclude _
    · exact (s.freePort.pageDone.pageFailed_keepsSetupAddr _ _ _).conclude _

theorem State.endRead_keepsSetupAddr {taken : State → AxisId → Except Failure IssueRegion → State} (s : State) (n : AxisId)
    (k : RouteAccess) (answer : ReadAnswer) (h : ∀ (s : State) r, s.KeepsSetupAddr (taken s n (.ok r))) :
    s.KeepsSetupAddr (s.endRead n k answer taken) := by
  unfold State.endRead
  split
  · exact .refl s
  · split
    · split
      · exact s.busFailed_keepsSetupAddr _
      · split
        · exact .refl s
        · exact (h s.freePort _).conclude n
    · exact .refl s

theorem State.endWrite_keepsSetupAddr {taken : State → AxisId → Except Failure Unit → State} (s : State) (n : AxisId)
    (k : RouteAccess) (answer : WriteAnswer) (h : ∀ s : State, s.KeepsSetupAddr (taken s n (.ok ()))) :
    s.KeepsSetupAddr (s.endWrite n k answer taken) := by
  unfold State.endWrite
  split
  · exact .refl s
  · split
    · split
      · exact s.busFailed_keepsSetupAddr _
      · split
        · exact .refl s
        · exact (h s.freePort).conclude n
    · exact .refl s

theorem execPageWriteEnd_keepsSetupAddr (answer : WriteAnswer) (s : State) :
    NextHolds s.KeepsSetupAddr (execPageWriteEnd answer s) := by
  unfold execPageWriteEnd
  split
  · exact .refl s
  · split
    · split
      · exact s.busFailed_keepsSetupAddr _
      · split
        · exact .refl s
        · exact (s.freePort.pageDone.pageWritten_keepsSetupAddr _ _).conclude _
    · exact .refl s
    · exact .refl s

theorem execSetupChunkEnd_keepsSetupAddr (answer : ChunkAnswer) (s : State) :
    NextHolds s.KeepsSetupAddr (execSetupChunkEnd answer s) := by
  unfold execSetupChunkEnd
  split
  · exact .refl s
  · split
    · split
      · exact s.busFailed_keepsSetupAddr _
      · split
        · exact .refl s
        · exact s.freePort.chunkEnded_keepsSetupAddr _ _
    · exact .refl s
    · exact .refl s

theorem execTransferTimeout_keepsSetupAddr (s : State) : NextHolds s.KeepsSetupAddr (execTransferTimeout s) := by
  unfold execTransferTimeout
  split
  · exact .refl s
  · exact s.busFailed_keepsSetupAddr _

theorem State.grantRoute_keepsSetupAddr (s : State) (n : AxisId) (q : RouteRequest) :
    s.KeepsSetupAddr (s.grantRoute n q) := by
  unfold State.grantRoute
  dsimp only
  split
  · exact ((State.leaves_routeFailed _ n q.kind _).keepsSetupAddr.conclude n).after
  · exact .refl s

theorem State.grantPage_keepsSetupAddr (s : State) (n : AxisId) : s.KeepsSetupAddr (s.grantPage n) := by
  unfold State.grantPage
  dsimp only
  split
  · exact .refl s
  · split
    · exact (((State.calm_takeHanded _ n).keepsSetupAddr.trans
        (State.pageFailed_keepsSetupAddr _ n _ _)).conclude n).after
    · exact (State.frame_afterPage _ n).keepsSetupAddr.after

theorem execArbiterGrant_keepsSetupAddr (s : State) : NextHolds s.KeepsSetupAddr (execArbiterGrant s) := by
  unfold execArbiterGrant
  split
  · exact .refl s
  · split
    · exact .refl s
    · split <;> exact .refl s
    · split
      · exact s.grantRoute_keepsSetupAddr _ _
      · exact .refl s
    · split
      · exact s.grantPage_keepsSetupAddr _
      · exact .refl s

/-! ### SETUP_ADDR through every command and event -/

theorem exec_setupAddr {s : State} (high : s.resetLow = false) (value : Word) :
    exec (.setupAddr value) s = .next { s with cmd.setupAddr := value } :=
  congrArg Host.Outcome.next (State.unlessReset_high high _)

/-- R190: only a write to SETUP_ADDR and a pin reset change it. -/
theorem exec_keepsSetupAddr {c : Instr} (noWrite : ∀ v, c ≠ .setupAddr v) (noReset : ∀ pins refs, c ≠ .pinReset pins refs)
    (s : State) : NextHolds s.KeepsSetupAddr (exec c s) := by
  cases c with
  | setupAddr value => exact absurd rfl (noWrite value)
  | pinReset pins refs => exact absurd rfl (noReset pins refs)
  | loadSetup index => exact command_keepsSetupAddr (State.takeLoadSetup_keepsSetupAddr index) _ s
  | start => exact command_keepsSetupAddr State.takeStart_keepsSetupAddr _ s
  | haltAll index => exact command_keepsSetupAddr (State.takeHaltAll_keepsSetupAddr index) _ s
  | abortAxis index => exact command_keepsSetupAddr (State.takeAbortAxis_keepsSetupAddr index) _ s
  | releaseAxis index => exact command_keepsSetupAddr (State.takeReleaseAxis_keepsSetupAddr index) _ s
  | clearReference index => exact command_keepsSetupAddr (State.takeClearReference_keepsSetupAddr index) _ s
  | snapshot index => exact command_keepsSetupAddr (State.takeSnapshot_keepsSetupAddr index) _ s
  | closeAperture index => exact command_keepsSetupAddr (State.takeAperture_keepsSetupAddr index false) _ s
  | openAperture index => exact command_keepsSetupAddr (State.takeAperture_keepsSetupAddr index true) _ s
  | unknownCommandCode code index argument => exact execUnknownCommandCode_keepsSetupAddr code index argument s
  | resetPart => exact State.unlessReset_keepsSetupAddr State.resetPart_keepsSetupAddr s
  | attn value => exact State.unlessReset_keepsSetupAddr (State.clearAttn_keepsSetupAddr value) s
  | attnMask value => exact State.unlessReset_keepsSetupAddr (State.setAttnMask_keepsSetupAddr value) s
  | notice value =>
    exact State.unlessReset_keepsSetupAddr
      (fun s => (State.KeepsSetupAddr.refl s).eachAxis (State.noticeBit_keepsSetupAddr value)) s
  | registerWriteNoEffect offset lanes value => exact execRegisterWriteNoEffect_keepsSetupAddr offset lanes value s
  | xstopAssertion => exact execXstopAssertion_keepsSetupAddr s
  | xstopRelease => exact execXstopRelease_keepsSetupAddr s
  | assertionNotice n => exact (execAssertionNotice_frame n s).keepsSetupAddr
  | countChange n edges => exact (execCountChange_frame n s edges).keepsSetupAddr
  | indexPulse n => exact execIndexPulse_keepsSetupAddr n s
  | refLevelChange n active => exact (execRefLevelChange_frame n s active).keepsSetupAddr
  | pairBroken n pair => exact (execPairBroken_frame n s pair).keepsSetupAddr
  | pairIntact n pair => exact (execPairIntact_frame n s pair).keepsSetupAddr
  | standstillReached n => exact (execStandstillReached_frame n s).keepsSetupAddr
  | stallTimeExpiry n => exact (execStallTimeExpiry_frame n s).keepsSetupAddr
  | moveTimeLimitExpiry n => exact (execMoveTimeLimitExpiry_frame n s).keepsSetupAddr
  | dwellExpiry n => exact (execDwellExpiry_frame n s).keepsSetupAddr
  | awaitDeadline n => exact (execAwaitDeadline_frame n s).keepsSetupAddr
  | closureAnnouncement n => exact (execClosureAnnouncement_frame n s).keepsSetupAddr
  | patrolTimerExpiry n => exact (execPatrolTimerExpiry_frame n s).keepsSetupAddr
  | reportTimerExpiry => exact execReportTimerExpiry_keepsSetupAddr s
  | pauseElapsed n => exact (execPauseElapsed_frame n s).keepsSetupAddr
  | directionSetupElapsed n => exact (execDirectionSetupElapsed_frame n s).keepsSetupAddr
  | directionHoldElapsed n => exact (execDirectionHoldElapsed_frame n s).keepsSetupAddr
  | transferTimeout => exact execTransferTimeout_keepsSetupAddr s
  | arbiterGrant => exact execArbiterGrant_keepsSetupAddr s
  | fetchEnd n answer => exact s.endRead_keepsSetupAddr n _ answer fun s _ => (s.calm_fetchEnded n _).keepsSetupAddr
  | verificationRereadEnd n answer =>
    exact s.endRead_keepsSetupAddr n _ answer fun s r => s.verificationEnded_keepsSetupAddr n r
  | closureRereadEnd n answer =>
    exact s.endRead_keepsSetupAddr n _ answer fun s _ => (s.calm_closureRereadEnded n _).keepsSetupAddr
  | outcomeWriteEnd n answer =>
    exact s.endWrite_keepsSetupAddr n _ answer fun s => (s.calm_outcomeWriteEnded n _).keepsSetupAddr
  | deliveryRereadEnd n answer =>
    exact s.endRead_keepsSetupAddr n _ answer fun s _ => (s.leaves_deliveryRereadEnded n _).keepsSetupAddr
  | deliveryWriteEnd n answer =>
    exact s.endWrite_keepsSetupAddr n _ answer fun s => (s.leaves_deliveryWriteEnded n _).keepsSetupAddr
  | pageWriteEnd answer => exact execPageWriteEnd_keepsSetupAddr answer s
  | setupChunkEnd answer => exact execSetupChunkEnd_keepsSetupAddr answer s
  | settledReport n => exact execSettledReport_keepsSetupAddr n s

/-! ### The load address -/

/-- R158: the load in progress has the setup address that the register held, which is a multiple of 32. -/
def State.LoadsFrom (s t : State) : Prop :=
  t.cmd.loadAddress = some s.cmd.setupAddr ∧ s.cmd.setupAddr.toNat % 32 = 0

theorem State.beginLoad_loadsFrom {s : State} {index : Byte} {origin : Origin} (hs : s.cmd.controller ≠ .loading)
    (ht : (s.beginLoad index origin).cmd.controller = .loading) : s.LoadsFrom (s.beginLoad index origin) := by
  unfold State.beginLoad at ht ⊢
  split at ht
  · exact absurd ht hs
  · rename_i hlatch
    rw [if_neg hlatch]
    split at ht
    · exact absurd ht hs
    · rename_i haligned
      rw [if_neg haligned]
      exact ⟨rfl, not_not.mp haligned⟩

theorem State.takeLoadSetup_loadsFrom {s : State} {index : Byte} (hs : s.cmd.controller ≠ .loading)
    (ht : (s.takeLoadSetup index).cmd.controller = .loading) : s.LoadsFrom (s.takeLoadSetup index) := by
  unfold State.takeLoadSetup at ht ⊢
  cases hc : s.cmd.controller <;> simp only [hc] at ht ⊢
  case blank | loaded => exact State.beginLoad_loadsFrom hs ht
  case loading => exact absurd hc hs
  case running | halting => cases hc.symm.trans ht

/-- R158, R191: of the ways in which a LOAD_SETUP write can end, only the one that takes it brings LOADING. -/
theorem exec_loadSetup_loadsFrom {s t : State} {index : Byte} {argument : BitVec 16}
    (h : exec (.loadSetup index argument) s = .next t) (hs : s.cmd.controller ≠ .loading)
    (ht : t.cmd.controller = .loading) : s.LoadsFrom t := by
  obtain rfl := Host.Outcome.next.inj h
  by_cases high : s.resetLow = false
  · rw [State.unlessReset_high high] at ht ⊢
    by_cases free : s.cmd.result ≠ .pending
    · rw [State.accept_of_not_pending free] at ht ⊢
      exact State.takeLoadSetup_loadsFrom (s := s.accepted 0x01) hs ht
    · rw [State.accept, if_pos (not_not.mp free)] at ht
      exact absurd ht hs
  · rw [State.unlessReset_low (Bool.not_eq_false _ ▸ high)] at ht
    exact absurd ht hs

/-! ### IDENT -/

theorem State.readRegister_ident (s : State) : s.readRegister 0x00 = identWord := rfl

theorem State.readRegister_setupAddr (s : State) : s.readRegister 0x04 = s.cmd.setupAddr := rfl

theorem exec_registerWriteNoEffect {offset : BitVec 6} {lanes : BitVec 4} (h : writeIsTaken offset lanes = false)
    (value : Word) (s : State) : exec (.registerWriteNoEffect offset lanes value) s = .next s :=
  if_neg (by simp [h])

/-- R189: IDENT is none of the registers that take a write, on any lanes. -/
theorem writeIsTaken_ident (lanes : BitVec 4) : writeIsTaken 0x00 lanes = false := by
  have readOnly : writableOffsets.contains 0x00 = false := by decide
  rw [writeIsTaken, readOnly, Bool.and_false]

end Sys2Proof.Machine

section

open Sys2Proof Sys2Proof.Machine

/-- Settles O12: a read of IDENT is a constant of the part, and a write to it is one without effect. -/
theorem identReads : Obligations.IdentReads := by
  unfold Obligations.IdentReads
  intro s
  rw [s.readRegister_ident]
  exact ⟨by decide, by decide, fun lanes value => exec_registerWriteNoEffect (writeIsTaken_ident lanes) value s⟩

/-- Settles O15: the two events that change the register by their closed forms, every other one by
`exec_keepsSetupAddr`, and the copy by the tests of a LOAD_SETUP that brings LOADING. -/
theorem setupAddrHolds : Obligations.SetupAddrHolds := by
  unfold Obligations.SetupAddrHolds
  refine ⟨fun value s high => exec_setupAddr high value, State.readRegister_setupAddr,
    fun c s t noWrite noReset h => (exec_keepsSetupAddr noWrite noReset s).of_next h, fun pins refs s t h => ?reset,
    fun index argument s t => exec_loadSetup_loadsFrom⟩
  case reset =>
    rw [exec_pinReset] at h
    obtain rfl := Host.Outcome.next.inj h
    rfl

end
